-- ==== Sys2Proof/Word.lean ====
section
/-!
DEFINITION. The word types of the SIF block (00_scope.md R11, R12) and their plainest arithmetic.
Bit 0 is the least significant bit; `++` on bit vectors is the spec's `{a, b}`.
-/
namespace Sys2Proof

/-- A sensor register, a frame byte (R11). -/
abbrev Byte := BitVec 8

/-- A 16-bit axis word, and the data of a transport response (R52, R75). -/
abbrev Word16 := BitVec 16

/-- An axis result, a descriptor, the status word, POLL_CNT (R28, R72, R35, R36). -/
abbrev Word32 := BitVec 32

/-- A 4-bit state code, format S (R70). -/
abbrev Code := BitVec 4

end Sys2Proof
end

