-- ==== Sys2Proof/Syntax.lean ====
section
/-!
DEFINITION. The abstract syntax: the 14 operations of the block (opcode_table.json, 30_encoding.md R70), the transport
request descriptor (format T, R72, R73) and the transport response (format P, R75).
-/
namespace Sys2Proof

/-- The 14 operations of SIF-1, in the order of their codes (R70). No operation has a run-time operand (R74). -/
inductive Instr where
  | idRd   -- ID_RD, R100
  | c1Rd   -- C1_RD, R101
  | c1Wr   -- C1_WR, R102
  | c1Vr   -- C1_VR, R103
  | c4Rd   -- C4_RD, R104
  | c4Wr   -- C4_WR, R105
  | c4Vr   -- C4_VR, R106
  | poll   -- POLL, R120
  | rdX    -- RD_X, R124
  | rdY    -- RD_Y, R125
  | rdZ    -- RD_Z, R126
  | conv   -- CONV, R140
  | pack   -- PACK, R160
  | emit   -- EMIT, R162
deriving DecidableEq, Repr

/-- The transaction kinds of R73. Code 11 is reserved and is no kind. -/
inductive Kind where
  | rd1   -- 00, a single-register read
  | rdn   -- 01, a multi-register read
  | wr1   -- 10, a single-register write
deriving DecidableEq, Repr

/-- A transport request descriptor by its fields (format T, R72). The reserved bits are not fields: they are always 0. -/
structure Desc where
  kind  : Kind
  count : BitVec 4
  dev   : BitVec 7
  reg   : Byte
  wdata : Byte
deriving DecidableEq, Repr

/-- A transport response (format P, R75): `err` is `rsp_err` (true = TransportError), `data` is `rsp_data[15:0]`. -/
structure Response where
  err  : Bool
  data : Word16
deriving DecidableEq, Repr

end Sys2Proof
end

