-- ==== Sys2Proof/Config.lean ====
section
/-!
DEFINITION. What is fixed for one block: the constants of 00_scope.md R9, the three parameters of R10, and the free value
that stands for the transport's answers (R193).
-/
namespace Sys2Proof.Config

/-- DEV_ADDR, the sensor's 7-bit device address (R9). -/
def devAddr : BitVec 7 := 0x18#7
/-- REG_WHO_AM_I, the identification register (R9). -/
def regWhoAmI : Byte := 0x0F#8
/-- REG_CTRL1 (R9). -/
def regCtrl1 : Byte := 0x20#8
/-- REG_CTRL4 (R9). -/
def regCtrl4 : Byte := 0x23#8
/-- REG_STATUS (R9). -/
def regStatus : Byte := 0x27#8
/-- REG_OUT_X_L (R9). -/
def regOutXL : Byte := 0x28#8
/-- REG_OUT_Y_L (R9). -/
def regOutYL : Byte := 0x2A#8
/-- REG_OUT_Z_L (R9). -/
def regOutZL : Byte := 0x2C#8
/-- ID_EXPECTED (R9). -/
def idExpected : Byte := 0x33#8
/-- CTRL1_CFG, an opaque byte to the block (R9, R110). -/
def ctrl1Cfg : Byte := 0x57#8
/-- CTRL4_CFG, an opaque byte to the block (R9, R110). -/
def ctrl4Cfg : Byte := 0x98#8
/-- ZYXDA_BIT, the status bit POLL tests (R9). -/
def zyxdaBit : Nat := 3
/-- SENS_MG, mg per count (R9). -/
def sensMg : Int := 2
/-- FRAME_LEN (R9). -/
def frameLen : Nat := 14
/-- FRAME_HDR (R9). -/
def frameHdr : Byte := 0xA0#8
/-- FRAME_FTR (R9). -/
def frameFtr : Byte := 0xC0#8
/-- AXIS_READ_COUNT (R9). -/
def axisReadCount : BitVec 4 := 2#4

/-- CONV_MODE (R10): the arithmetic of the converter. -/
inductive ConvMode where
  | exact     -- EXACT, R143
  | srcFloat  -- SRC_FLOAT, R145
deriving DecidableEq, Repr

/-- The parameters of R10. They are fixed when the block is built and do not change during a run (R207). -/
structure Params where
  pollLimit   : Word32    -- POLL_LIMIT, 0 = poll forever
  emitOnError : Bool      -- EMIT_ON_ERROR
  convMode    : ConvMode  -- CONV_MODE
deriving DecidableEq, Repr

/-- The defaults of R10. -/
def Params.default : Params := { pollLimit := 0#32, emitOnError := true, convMode := .exact }

/-- FREE VALUE (DESIGN CHOICE, log 1): the answer the transport gives at the n-th draw after the scripted answers of `State.replies` have
run out. `none` says that no answer comes in that step (R194). It has no body, so nothing holds of it that does not hold of
every answer: R193's "free inputs". -/
opaque freeReply : Nat → Option Response

/-- FREE VALUE (DESIGN CHOICE, log 8): the byte EMIT presents at a TX_IDX of 14 or 15. The register's 4 bits can hold these
values (R37), no run reaches them (R81), and FRAME has no such offset (R29). It has no body. -/
opaque freeTxByte : BitVec 4 → Byte

end Sys2Proof.Config
end

