-- ==== Sys2Proof/WellFormed.lean ====
section
/-!
DEFINITION. Which terms are well formed. An operation has no operand (R74), so every `Instr` is; a descriptor is well formed
when its fields go together as R72 and R73 say.
-/
namespace Sys2Proof

/-- COUNT is 1 for RD1 and WR1 and 2 for RDN (R72, R57). -/
def Desc.countOk (d : Desc) : Bool :=
  match d.kind with
  | .rd1 => d.count == 1#4
  | .rdn => d.count == Config.axisReadCount
  | .wr1 => d.count == 1#4

/-- WDATA is 0 for reads (R72). -/
def Desc.wdataOk (d : Desc) : Bool :=
  match d.kind with
  | .rd1 => d.wdata == 0#8
  | .rdn => d.wdata == 0#8
  | .wr1 => true

/-- DEV is always 0x18 (R72, R50). -/
def Desc.devOk (d : Desc) : Bool := d.dev == Config.devAddr

/-- The well-formed descriptors of format T. -/
def Desc.wf (d : Desc) : Bool := d.countOk && d.wdataOk && d.devOk

end Sys2Proof
end

