-- ==== Sys2Proof/Decode.lean ====
section
/-!
DEFINITION. Decoding and encoding: state codes (format S, 30_encoding.md R70, R76) and request descriptors (format T,
R72, R73), each with its encoder after it, written from the same table.
-/
namespace Sys2Proof

/-- Why a word is no operation. -/
inductive DecodeReject where
  | unassigned (c : Code)  -- 0xE or 0xF: the recovery step of R205 is selected
  | notACode (w : Nat)     -- does not fit the 4 bits of format S (R71)
deriving DecidableEq, Repr

/-- The operation a state code selects (R70); 0xE and 0xF are unassigned. -/
def decode (c : Code) : Except DecodeReject Instr :=
  match c.toNat with
  | 0x0 => .ok .idRd
  | 0x1 => .ok .c1Rd
  | 0x2 => .ok .c1Wr
  | 0x3 => .ok .c1Vr
  | 0x4 => .ok .c4Rd
  | 0x5 => .ok .c4Wr
  | 0x6 => .ok .c4Vr
  | 0x7 => .ok .poll
  | 0x8 => .ok .rdX
  | 0x9 => .ok .rdY
  | 0xA => .ok .rdZ
  | 0xB => .ok .conv
  | 0xC => .ok .pack
  | 0xD => .ok .emit
  | _   => .error (.unassigned c)

/-- The code of an operation (R70): the block's `state <- S` writes it. -/
def encode : Instr → Code
  | .idRd => 0x0#4
  | .c1Rd => 0x1#4
  | .c1Wr => 0x2#4
  | .c1Vr => 0x3#4
  | .c4Rd => 0x4#4
  | .c4Wr => 0x5#4
  | .c4Vr => 0x6#4
  | .poll => 0x7#4
  | .rdX  => 0x8#4
  | .rdY  => 0x9#4
  | .rdZ  => 0xA#4
  | .conv => 0xB#4
  | .pack => 0xC#4
  | .emit => 0xD#4

/-- Decoding a number given as a word: only the 16 values of 4 bits are codes (R71, R84). -/
def decodeWord (w : Nat) : Except DecodeReject Instr :=
  if w < 16 then decode (BitVec.ofNat 4 w) else .error (.notACode w)

/-- The instruction of a word whose bits are numbered as opcode_table.json numbers them. `nbits` is the row's width in whole
bytes; a code has 4 bits (R71), so the word's bits above them must be 0 (DESIGN CHOICE, log 5). -/
def decodeTableWord (nbits w : Nat) : Option Instr :=
  if w < 2 ^ nbits then (decodeWord w).toOption else none

/-- Why a 32-bit word is no descriptor the block can issue. -/
inductive DescReject where
  | reservedKind  -- KIND = 11 (R73, R83)
  | reservedBits  -- bit 29, 28 or 23 is not 0 (R72, R83)
  | illFormed     -- COUNT, DEV or WDATA does not go with KIND (R72; DESIGN CHOICE, log 13)
deriving DecidableEq, Repr

/-- The KIND field of R73. -/
def encodeKind : Kind → BitVec 2
  | .rd1 => 0b00#2
  | .rdn => 0b01#2
  | .wr1 => 0b10#2

/-- Reading the KIND field; 11 is reserved (R73). -/
def decodeKind (b : BitVec 2) : Option Kind :=
  match b.toNat with
  | 0 => some .rd1
  | 1 => some .rdn
  | 2 => some .wr1
  | _ => none

/-- `req_desc` of a descriptor (R72): KIND, 2 zeros, COUNT, a zero, DEV, REG, WDATA. -/
def encodeDesc (d : Desc) : Word32 :=
  encodeKind d.kind ++ 0#2 ++ d.count ++ 0#1 ++ d.dev ++ d.reg ++ d.wdata

/-- The descriptor a 32-bit word stands for, rejecting by name (R72, R73, R83). -/
def decodeDesc (w : Word32) : Except DescReject Desc :=
  match decodeKind (w.extractLsb' 30 2) with
  | none => .error .reservedKind
  | some k =>
    if w.extractLsb' 28 2 ≠ 0#2 ∨ w.extractLsb' 23 1 ≠ 0#1 then .error .reservedBits
    else
      let d : Desc := { kind := k, count := w.extractLsb' 24 4, dev := w.extractLsb' 16 7,
                        reg := w.extractLsb' 8 8, wdata := w.extractLsb' 0 8 }
      if d.wf then .ok d else .error .illFormed

end Sys2Proof
end

