-- ==== Sys2Proof/Machine/State.lean ====
section
/-!
DEFINITION. The state of the SIF block (10_state.md, R202), as plain data, and its reset. The faults and refusals are here
because their names are fixed here; no operation of the block raises one (60_exceptions.md R181).
-/
namespace Sys2Proof.Machine

/-- FAULTS. None: "No other error exists" than TransportError, which is recorded and stops nothing (R180, R181, R185). -/
inductive Fault where
deriving DecidableEq, Repr

/-- Why a step can be refused. -/
inductive Refusal where
  /-- An operation without a meaning, raised by an arm of `exec` only. No arm raises it: all 14 have a meaning. Safe: the run
  stops. -/
  | notModelled (mnemonic : String)
deriving DecidableEq, Repr

/-- The status flags of 10_state.md R31. -/
structure StatusFlags where
  cfgErr       : Bool  -- CFG_ERR, sticky
  acqErr       : Bool  -- ACQ_ERR, sticky
  idMismatch   : Bool  -- ID_MISMATCH
  c1Written    : Bool  -- C1_WRITTEN
  c1Mismatch   : Bool  -- C1_MISMATCH
  c4Mismatch   : Bool  -- C4_MISMATCH
  cfgDone      : Bool  -- CFG_DONE
  timeout      : Bool  -- TIMEOUT, sticky
  illegalState : Bool  -- ILLEGAL_STATE, sticky
deriving DecidableEq, Repr

/-- The flags after reset: all 0 (R31, R202). -/
def StatusFlags.reset : StatusFlags :=
  { cfgErr := false, acqErr := false, idMismatch := false, c1Written := false, c1Mismatch := false,
    c4Mismatch := false, cfgDone := false, timeout := false, illegalState := false }

/-- One entry of the request trace REQ (R40): the descriptor issued, with its response; `none` when reset abandoned the
request (R201) or it is still outstanding. -/
structure Txn where
  desc : Word32
  rsp  : Option Response
deriving DecidableEq, Repr

/-- The bytes of the frame buffer: offsets strictly rising, no entry equal to what an unlisted offset reads as. The form is
`Memory.wf` of Machine/Ops.lean. -/
abbrev Memory := List Host.Cell

/-- The state of the machine. The first group is the registers of 10_state.md, the second its observation traces (R40), the
third the model's own: the parameters and the inputs a step reads. -/
structure State where
  state        : Code              -- R20, the FSM state register
  idVal        : Byte              -- R22, ID_VAL
  c1Val        : Byte              -- R23, C1_VAL
  c4Val        : Byte              -- R24, C4_VAL
  stVal        : Byte              -- R25, ST_VAL
  xl           : Byte              -- R26, XL
  xh           : Byte              -- R26, XH
  yl           : Byte              -- R26, YL
  yh           : Byte              -- R26, YH
  zl           : Byte              -- R26, ZL
  zh           : Byte              -- R26, ZH
  errGate      : Bool              -- R27, ERR_GATE
  ax           : Word32            -- R28, AX
  ay           : Word32            -- R28, AY
  az           : Word32            -- R28, AZ
  frame        : Memory            -- R29, FRAME
  flags        : StatusFlags       -- R31
  lastErrState : Code              -- R33, LAST_ERR_STATE
  pollCnt      : Word32            -- R36, POLL_CNT
  txnPending   : Bool              -- R37, TXN_PENDING
  txIdx        : BitVec 4          -- R37, TX_IDX; every step keeps it in 0 to 13 (R81)
  req          : List Txn          -- R40, REQ: answered and abandoned requests, oldest first
  out          : List Byte         -- R40, OUT: the bytes emitted, oldest first
  params       : Config.Params     -- R10, R207: fixed in a run (DESIGN CHOICE, log 4)
  replies      : List (Option Response)  -- the answers to come, oldest first; none = no answer in that step (DESIGN CHOICE, log 1, 2)
  drawIdx      : Nat               -- draws made from Config.freeReply (DESIGN CHOICE, log 1)
  rstIn        : List (Option Nat) -- the rst input of the steps to come, oldest first (DESIGN CHOICE, log 3)
deriving DecidableEq, Repr

/-- Every register at its reset value (R202), for a block built with the parameters `p`; traces empty, no input given. -/
def State.resetWith (p : Config.Params) : State :=
  { state := 0x0#4, idVal := 0#8, c1Val := 0#8, c4Val := 0#8, stVal := 0#8,
    xl := 0#8, xh := 0#8, yl := 0#8, yh := 0#8, zl := 0#8, zh := 0#8, errGate := false,
    ax := 0#32, ay := 0#32, az := 0#32, frame := [], flags := StatusFlags.reset, lastErrState := 0xF#4,
    pollCnt := 0#32, txnPending := false, txIdx := 0#4, req := [], out := [],
    params := p, replies := [], drawIdx := 0, rstIn := [] }

/-- The machine right after reset (R202), with the default parameters of R10 (DESIGN CHOICE, log 14). A run starts here
(DEDUCED, log 17). -/
def State.reset : State := State.resetWith Config.Params.default

end Sys2Proof.Machine
end

