-- ==== Sys2Proof/Machine/Operands.lean ====
section
/-!
DEFINITION. Operands: the one descriptor of each transport operation (30_encoding.md R74), the bytes of a response (R75) and
the axis words (20_memory.md R52).
-/
namespace Sys2Proof.Machine

/-- The descriptor of `MemRead(reg, 1)` (R14, R73). -/
def readDesc (reg : Byte) : Desc := { kind := .rd1, count := 1#4, dev := Config.devAddr, reg := reg, wdata := 0#8 }

/-- The descriptor of `MemRead(reg, 2)`: the plain low address, the increment is the transport's (R14, R58, R73). -/
def readPairDesc (reg : Byte) : Desc :=
  { kind := .rdn, count := Config.axisReadCount, dev := Config.devAddr, reg := reg, wdata := 0#8 }

/-- The descriptor of `MemWrite(reg, 1, v)` (R14, R73). -/
def writeDesc (reg v : Byte) : Desc := { kind := .wr1, count := 1#4, dev := Config.devAddr, reg := reg, wdata := v }

/-- ID_RD's descriptor (R74). -/
def descIdRd : Desc := readDesc Config.regWhoAmI
/-- C1_RD's descriptor (R74). -/
def descC1Rd : Desc := readDesc Config.regCtrl1
/-- C1_WR's descriptor (R74). -/
def descC1Wr : Desc := writeDesc Config.regCtrl1 Config.ctrl1Cfg
/-- C1_VR's descriptor, the same as C1_RD's (R74, R103). -/
def descC1Vr : Desc := readDesc Config.regCtrl1
/-- C4_RD's descriptor (R74). -/
def descC4Rd : Desc := readDesc Config.regCtrl4
/-- C4_WR's descriptor (R74). -/
def descC4Wr : Desc := writeDesc Config.regCtrl4 Config.ctrl4Cfg
/-- C4_VR's descriptor, the same as C4_RD's (R74, R106). -/
def descC4Vr : Desc := readDesc Config.regCtrl4
/-- POLL's descriptor (R74). -/
def descPoll : Desc := readDesc Config.regStatus
/-- RD_X's descriptor (R74). -/
def descRdX : Desc := readPairDesc Config.regOutXL
/-- RD_Y's descriptor (R74). -/
def descRdY : Desc := readPairDesc Config.regOutYL
/-- RD_Z's descriptor (R74). -/
def descRdZ : Desc := readPairDesc Config.regOutZL

/-- The descriptor table of R74; CONV, PACK and EMIT issue none. -/
def descOf : Instr → Option Desc
  | .idRd => some descIdRd
  | .c1Rd => some descC1Rd
  | .c1Wr => some descC1Wr
  | .c1Vr => some descC1Vr
  | .c4Rd => some descC4Rd
  | .c4Wr => some descC4Wr
  | .c4Vr => some descC4Vr
  | .poll => some descPoll
  | .rdX  => some descRdX
  | .rdY  => some descRdY
  | .rdZ  => some descRdZ
  | .conv => none
  | .pack => none
  | .emit => none

/-- `data[0] = rsp_data[7:0]`, the byte of register REG (R75). -/
def data0 (r : Response) : Byte := r.data.extractLsb' 0 8

/-- `data[1] = rsp_data[15:8]`, the byte of register REG+1 (R75). -/
def data1 (r : Response) : Byte := r.data.extractLsb' 8 8

/-- The axis word `W = {high, low}` (R52). -/
def axisWord (high low : Byte) : Word16 := high ++ low

end Sys2Proof.Machine
end

