-- ==== Sys2Proof/Machine/Ops.lean ====
section
/-!
DEFINITION. The named operations over the state that the meanings share: drawing an input, the transport transaction
(00_scope.md R14), error reporting (R16), the frame buffer (R15, R29, R53), emission (R15) and reset (R200, R201).
-/
namespace Sys2Proof.Machine

/-! ### Inputs -/

/-- The answer the transport gives in this step: the next scripted one, then the free draw (R193; DESIGN CHOICE, log 1). `none` is no answer
yet (R194; DESIGN CHOICE, log 2). -/
def State.nextReply (s : State) : Option Response :=
  match s.replies with
  | r :: _ => r
  | []     => Config.freeReply s.drawIdx

/-- The answer of this step is used up. -/
def State.popReply (s : State) : State :=
  match s.replies with
  | _ :: rs => { s with replies := rs }
  | []      => { s with drawIdx := s.drawIdx + 1 }

/-- The `rst` input of this step: `some k` says that `rst` is asserted in the cycle after the first `k` cycles of this step's
operation; past the list `rst` stays 0 (R201; DESIGN CHOICE, log 3). -/
def State.rstNow (s : State) : Option Nat :=
  match s.rstIn with
  | c :: _ => c
  | []     => none

/-- The `rst` input of this step is used up. -/
def State.popRst (s : State) : State := { s with rstIn := s.rstIn.tail }

/-! ### The transport transaction -/

/-- A cycle in which the request is outstanding and unanswered: TXN_PENDING <- 1, every other register holds (R78). It is
below the operation level (R37). -/
def State.holdRequest (s : State) : State := { s with txnPending := true }

/-- The request of `d` is answered by `r`: TXN_PENDING <- 0, and REQ records both (R78, R40). -/
def State.logTxn (d : Desc) (r : Response) (s : State) : State :=
  { s with txnPending := false, req := s.req ++ [{ desc := encodeDesc d, rsp := some r }] }

/-- A transport operation: one blocking transaction (R14, R59), completed by `fin` when the answer is there. When it
is not, the operation has no step of its own (R194): the machine stays as it is (DESIGN CHOICE, log 2), so that an operation
step always starts with TXN_PENDING = 0 (R37). The draw is used up in either case. -/
def transport (d : Desc) (fin : Response → State → State) (s : State) : Host.Outcome State Fault Refusal :=
  .next (match s.nextReply with
    | none   => s.popReply
    | some r => fin r (s.popReply.logTxn d r))

/-! ### Error reporting: the block's whole exception mechanism (R16, R180, R185). -/

/-- `report TransportError(S)` (R16): LAST_ERR_STATE <- S, and CFG_ERR for S in 0x0..0x6 or ACQ_ERR for S in 0x7..0xA.
No state is saved, no mode changes and control is not redirected (R185). -/
def reportError (c : Code) (s : State) : State :=
  { s with
    lastErrState := c
    flags := { s.flags with
      cfgErr := s.flags.cfgErr || decide (c.toNat ≤ 0x6)
      acqErr := s.flags.acqErr || decide (0x7 ≤ c.toNat ∧ c.toNat ≤ 0xA) } }

/-! ### The frame buffer -/

/-- What an unlisted offset reads as: the reset contents of FRAME (R29, R202). -/
def Memory.unlisted (a : Nat) : Byte :=
  if a = 0 then Config.frameHdr else if a = 13 then Config.frameFtr else 0#8

/-- The byte at an offset. -/
def Memory.get (a : Nat) : Memory → Byte
  | []             => Memory.unlisted a
  | (b, w) :: rest => if a = b then w else Memory.get a rest

/-- Storing a byte, keeping the canonical form: the value an unlisted offset reads as removes the entry. -/
def Memory.set (a : Nat) (v : Byte) : Memory → Memory
  | [] => if v = Memory.unlisted a then [] else [(a, v)]
  | (b, w) :: rest =>
    if a < b then (if v = Memory.unlisted a then (b, w) :: rest else (a, v) :: (b, w) :: rest)
    else if a = b then (if v = Memory.unlisted a then rest else (a, v) :: rest)
    else (b, w) :: Memory.set a v rest

/-- Every entry is above `lo`, rises strictly, lies in the writable offsets 1..12 and differs from the unlisted value. -/
def Memory.wfAbove (lo : Nat) : Memory → Bool
  | []             => true
  | (a, v) :: rest => decide (lo < a) && decide (a < 13) && decide (v ≠ Memory.unlisted a) && Memory.wfAbove a rest

/-- The canonical form of the frame buffer's contents. -/
def Memory.wf (m : Memory) : Bool := Memory.wfAbove 0 m

/-- `FrameRead(off)` (R15). FRAME[0] and FRAME[13] are hardwired (R29). -/
def frameRead (s : State) (off : Fin 14) : Byte :=
  if off = 0 then Config.frameHdr
  else if off = 13 then Config.frameFtr
  else Memory.get off.val s.frame

/-- The byte EMIT presents at TX_IDX = k: FRAME[k] for the 14 offsets there are (R80), a free value for 14 and 15
(DESIGN CHOICE, log 8). -/
def txByte (s : State) (k : BitVec 4) : Byte :=
  if k.toNat < 14 then frameRead s (Fin.ofNat 14 k.toNat) else Config.freeTxByte k

/-- `FrameWrite(off, v)` (R15). Writes to offsets 0 and 13 have no effect (R29, R53). -/
def frameWrite (off : Fin 14) (v : Byte) (s : State) : State :=
  if off = 0 ∨ off = 13 then s else { s with frame := Memory.set off.val v s.frame }

/-- Several `FrameWrite`s, in the order of the list. -/
def frameWrites : List (Fin 14 × Byte) → State → State
  | [], s            => s
  | (o, v) :: ws, s  => frameWrites ws (frameWrite o v s)

/-- The 14 bytes of the frame, in offset order (R82). -/
def frameBytes (s : State) : List Byte :=
  [frameRead s 0, frameRead s 1, frameRead s 2, frameRead s 3, frameRead s 4, frameRead s 5, frameRead s 6,
   frameRead s 7, frameRead s 8, frameRead s 9, frameRead s 10, frameRead s 11, frameRead s 12, frameRead s 13]

/-- Byte i of a 32-bit value, `v[8i+7:8i]` (R53). -/
def byteOf (v : Word32) (i : Nat) : Byte := v.extractLsb' (8 * i) 8

/-- `Emit` for each byte of a list, in order: the bytes are appended to OUT (R15). -/
def emitBytes (bs : List Byte) (s : State) : State := { s with out := s.out ++ bs }

/-! ### Reset -/

/-- The request that is outstanding, if one is (R77 req_valid, req_desc; R79 at most one). -/
def State.outstanding (s : State) : List Txn :=
  match s.txnPending, decode s.state with
  | true, .ok i => ((descOf i).map (fun d => { desc := encodeDesc d, rsp := none : Txn })).toList
  | _, _        => []

/-- The trace REQ of R40: every request issued, in order, with its response; an outstanding one stands last, without
(DESIGN CHOICE, log 10). -/
def State.reqTrace (s : State) : List Txn := s.req ++ s.outstanding

/-- A cycle with `rst` = 1 (R200): every register takes its reset value. The parameters stay (R207), the traces stay and an
outstanding request stays in REQ as abandoned (R201, R202); the inputs to come are not the block's. -/
def State.resetNow (s : State) : State :=
  { State.resetWith s.params with
    req := s.reqTrace, out := s.out, replies := s.replies, drawIdx := s.drawIdx, rstIn := s.rstIn }

/-- What the operation in progress has shown to the outside after its first `k` cycles, when no answer has come (R201): a
transport operation has its request outstanding from its first cycle on (R78), EMIT has presented its first `k` bytes, at
most 13 (R80), CONV, PACK and the recovery step show nothing. -/
def State.partialOp (k : Nat) (s : State) : State :=
  match decode s.state with
  | .error _ => s
  | .ok i =>
    match descOf i with
    | some _ => if k = 0 then s else s.holdRequest
    | none   => if i = .emit then emitBytes ((frameBytes s).take (min k 13)) s else s

/-- `rst` asserted after `k` cycles of the operation in progress (R200, R201). -/
def State.resetDuring (k : Nat) (s : State) : State := (s.partialOp k).resetNow

/-- Recovery from an unassigned state code (R205): ILLEGAL_STATE <- 1, state <- POLL, and nothing else
(DESIGN CHOICE, log 9: an upset itself is no event of the model). -/
def recover (s : State) : State :=
  { s with flags := { s.flags with illegalState := true }, state := encode .poll }

end Sys2Proof.Machine
end

