-- ==== Sys2Proof/Machine/Flags.lean ====
section
/-!
DEFINITION. The flag computations: the mismatch flags (10_state.md R31), the data-ready predicate (41_acquire.md R121), the
poll counter with TIMEOUT (R122) and the status word SIF_STATUS (10_state.md R35).
-/
namespace Sys2Proof.Machine

/-- The value of ID_MISMATCH, C1_MISMATCH and C4_MISMATCH: `err or data[0] != expected` (R31). -/
def mismatch (r : Response) (expected : Byte) : Bool := r.err || data0 r != expected

/-- The data-ready predicate of a status byte: bit 3 (R121). -/
def ready (b : Byte) : Bool := b.getLsbD Config.zyxdaBit

/-- `ready` of a POLL response: no error, and bit 3 of this transaction's byte (R120). -/
def pollReady (r : Response) : Bool := !r.err && ready (data0 r)

/-- `PollCount()` (R122). The sum that is compared with POLL_LIMIT is an integer (R12); the counter wraps at 2^32. -/
def pollCount (s : State) : State :=
  if 0 < s.params.pollLimit.toNat ∧ s.pollCnt.toNat + 1 = s.params.pollLimit.toNat then
    { s with flags := { s.flags with timeout := true }, pollCnt := 0#32 }
  else { s with pollCnt := s.pollCnt + 1#32 }

/-- One bit of the status word. -/
def bit (b : Bool) : BitVec 1 := BitVec.ofBool b

/-- SIF_STATUS, a pure function of the registers (R35). -/
def State.sifStatus (s : State) : Word32 :=
  0#14 ++ bit s.flags.illegalState ++ bit s.flags.timeout ++ bit s.flags.cfgDone ++ bit s.flags.c1Written
    ++ bit s.flags.c4Mismatch ++ bit s.flags.c1Mismatch ++ bit s.flags.idMismatch ++ bit s.flags.cfgErr
    ++ bit s.flags.acqErr ++ bit s.errGate ++ s.lastErrState ++ s.state

end Sys2Proof.Machine
end

