-- ==== Sys2Proof/Machine/Acquire.lean ====
section
/-!
DEFINITION. Acquisition (41_acquire.md): POLL, RD_X, RD_Y, RD_Z.
-/
namespace Sys2Proof.Machine

/-- POLL with its response (R120). -/
def finishPoll (r : Response) (s : State) : State :=
  let t := if r.err then reportError (encode .poll) s else { s with stVal := data0 r }
  if pollReady r then { t with pollCnt := 0#32, state := encode .rdX }
  else { pollCount t with state := encode .poll }

/-- RD_X with its response (R124). -/
def finishRdX (r : Response) (s : State) : State :=
  let t := if r.err then reportError (encode .rdX) s else { s with xl := data0 r, xh := data1 r }
  { t with errGate := r.err, state := encode .rdY }

/-- RD_Y with its response (R125). -/
def finishRdY (r : Response) (s : State) : State :=
  let t := if r.err then reportError (encode .rdY) s else { s with yl := data0 r, yh := data1 r }
  { t with errGate := r.err, state := encode .rdZ }

/-- RD_Z with its response (R126). -/
def finishRdZ (r : Response) (s : State) : State :=
  let t := if r.err then reportError (encode .rdZ) s else { s with zl := data0 r, zh := data1 r }
  { t with errGate := r.err, state := encode .conv }

/-- POLL (R120). -/
def execPoll (s : State) : Host.Outcome State Fault Refusal := transport descPoll finishPoll s
/-- RD_X (R124). -/
def execRdX (s : State) : Host.Outcome State Fault Refusal := transport descRdX finishRdX s
/-- RD_Y (R125). -/
def execRdY (s : State) : Host.Outcome State Fault Refusal := transport descRdY finishRdY s
/-- RD_Z (R126). -/
def execRdZ (s : State) : Host.Outcome State Fault Refusal := transport descRdZ finishRdZ s

end Sys2Proof.Machine
end

