-- ==== Sys2Proof/Machine/Configure.lean ====
section
/-!
DEFINITION. The CONFIG phase (40_configure.md): ID_RD, C1_RD, C1_WR, C1_VR, C4_RD, C4_WR, C4_VR. Each operation has a
`finish…`, what it does with its transaction's response, and an `exec…`, its meaning.
-/
namespace Sys2Proof.Machine

/-- ID_RD with its response (R100). -/
def finishIdRd (r : Response) (s : State) : State :=
  let t := if r.err then reportError (encode .idRd) s else { s with idVal := data0 r }
  { t with flags := { t.flags with idMismatch := mismatch r Config.idExpected }, state := encode .c1Rd }

/-- C1_RD with its response (R101): a failed read counts as a value that differs. -/
def finishC1Rd (r : Response) (s : State) : State :=
  let t := if r.err then reportError (encode .c1Rd) s else { s with c1Val := data0 r }
  { t with state := if mismatch r Config.ctrl1Cfg then encode .c1Wr else encode .c4Rd }

/-- C1_WR with its response (R102). -/
def finishC1Wr (r : Response) (s : State) : State :=
  let t := if r.err then reportError (encode .c1Wr) s else s
  { t with flags := { t.flags with c1Written := true }, state := encode .c1Vr }

/-- C1_VR with its response (R103). -/
def finishC1Vr (r : Response) (s : State) : State :=
  let t := if r.err then reportError (encode .c1Vr) s else { s with c1Val := data0 r }
  { t with flags := { t.flags with c1Mismatch := mismatch r Config.ctrl1Cfg }, state := encode .c4Rd }

/-- C4_RD with its response (R104). -/
def finishC4Rd (r : Response) (s : State) : State :=
  let t := if r.err then reportError (encode .c4Rd) s else { s with c4Val := data0 r }
  { t with state := encode .c4Wr }

/-- C4_WR with its response (R105). -/
def finishC4Wr (r : Response) (s : State) : State :=
  let t := if r.err then reportError (encode .c4Wr) s else s
  { t with state := encode .c4Vr }

/-- C4_VR with its response (R106). -/
def finishC4Vr (r : Response) (s : State) : State :=
  let t := if r.err then reportError (encode .c4Vr) s else { s with c4Val := data0 r }
  { t with flags := { t.flags with c4Mismatch := mismatch r Config.ctrl4Cfg, cfgDone := true }, state := encode .poll }

/-- ID_RD (R100). -/
def execIdRd (s : State) : Host.Outcome State Fault Refusal := transport descIdRd finishIdRd s
/-- C1_RD (R101). -/
def execC1Rd (s : State) : Host.Outcome State Fault Refusal := transport descC1Rd finishC1Rd s
/-- C1_WR (R102). -/
def execC1Wr (s : State) : Host.Outcome State Fault Refusal := transport descC1Wr finishC1Wr s
/-- C1_VR (R103). -/
def execC1Vr (s : State) : Host.Outcome State Fault Refusal := transport descC1Vr finishC1Vr s
/-- C4_RD (R104). -/
def execC4Rd (s : State) : Host.Outcome State Fault Refusal := transport descC4Rd finishC4Rd s
/-- C4_WR (R105). -/
def execC4Wr (s : State) : Host.Outcome State Fault Refusal := transport descC4Wr finishC4Wr s
/-- C4_VR (R106). -/
def execC4Vr (s : State) : Host.Outcome State Fault Refusal := transport descC4Vr finishC4Vr s

end Sys2Proof.Machine
end

