-- ==== Sys2Proof/Machine/Binary64.lean ====
section
/-!
DEFINITION. The IEEE-754 binary64 arithmetic that CONV_MODE = SRC_FLOAT is stated in (42_convert.md R145): finite numbers as
sign, significand and exponent, with multiplication and division correctly rounded to 53 bits, ties to even (PRESUMED, log 7). The exponent is
not bounded: every operand of R145 is 0 or of magnitude between 1e-3 and 2^23, far inside binary64's normal range (DEDUCED, log 6).
-/
namespace Sys2Proof.Machine

/-- The number (-1)^neg * man * 2^exp. -/
structure Binary64 where
  neg : Bool
  man : Nat
  exp : Int
deriving DecidableEq, Repr

/-- The integer part of log2 (num / den), for num and den not 0. -/
def floorLog2Ratio (num den : Nat) : Int :=
  let k : Int := (num.log2 : Int) - (den.log2 : Int)
  if num * 2 ^ (-k).toNat < den * 2 ^ k.toNat then k - 1 else k

/-- num / den rounded to the nearest natural number, ties to the even one. -/
def divTiesToEven (num den : Nat) : Nat :=
  let q := num / den
  let r := num % den
  if den < 2 * r ∨ (2 * r = den ∧ q % 2 = 1) then q + 1 else q

/-- The rational (-1)^neg * num / den rounded to 53 significant bits, roundTiesToEven (R145). -/
def roundTiesToEven (neg : Bool) (num den : Nat) : Binary64 :=
  if num = 0 then { neg := neg, man := 0, exp := 0 }
  else
    let e := floorLog2Ratio num den - 52
    { neg := neg, man := divTiesToEven (num * 2 ^ (-e).toNat) (den * 2 ^ e.toNat), exp := e }

/-- An integer of at most 53 bits is a binary64 number (`double(i)`, R145). -/
def Binary64.ofInt (i : Int) : Binary64 := { neg := decide (i < 0), man := i.natAbs, exp := 0 }

/-- The rounded product. -/
def Binary64.mul (x y : Binary64) : Binary64 :=
  let e := x.exp + y.exp
  roundTiesToEven (x.neg != y.neg) (x.man * y.man * 2 ^ e.toNat) (2 ^ (-e).toNat)

/-- The rounded quotient, for y not 0. -/
def Binary64.div (x y : Binary64) : Binary64 :=
  let e := x.exp - y.exp
  roundTiesToEven (x.neg != y.neg) (x.man * 2 ^ e.toNat) (y.man * 2 ^ (-e).toNat)

/-- `trunc`: the integer part, toward zero (R12). -/
def Binary64.trunc (x : Binary64) : Int :=
  let m : Int := ((x.man * 2 ^ x.exp.toNat / 2 ^ (-x.exp).toNat : Nat) : Int)
  if x.neg then -m else m

/-- C981, the binary64 number nearest 9.81: 0x1.39eb851eb851fp+3 (R145). -/
def c981 : Binary64 := { neg := false, man := 0x139eb851eb851f, exp := -49 }

/-- 1000.0. -/
def f1000 : Binary64 := Binary64.ofInt 1000

end Sys2Proof.Machine
end

