-- ==== Sys2Proof/Machine/Convert.lean ====
section
/-!
DEFINITION. The unit converter (42_convert.md): the raw count (R142), the two conversions (R143, R145), CONV (R140).
-/
namespace Sys2Proof.Machine

/-- `raw(W) = sext_16(W) asr 4` (R142). -/
def rawCount (w : Word16) : Int := (w.sshiftRight 4).toInt

/-- milli-g of a raw count, `r * SENS_MG` (R143, R151). -/
def milliG (r : Int) : Int := r * Config.sensMg

/-- Conv of a raw count with CONV_MODE = EXACT: `mg * 981`, its magnitude divided by 100 rounding down, the sign put back
(R143). -/
def convExact (r : Int) : Int :=
  let p := milliG r * 981
  let q : Int := (p.natAbs / 100 : Nat)
  if p < 0 then -q else q

/-- Conv of a raw count with CONV_MODE = SRC_FLOAT: the operation order of R145, in binary64. -/
def convSrcFloat (r : Int) : Int :=
  let t1 := (Binary64.ofInt (milliG r)).mul c981
  let t2 := t1.div f1000
  let t3 := t2.mul f1000
  t3.trunc

/-- Conv of a raw count in a mode (R140). -/
def convCount (m : Config.ConvMode) (r : Int) : Int :=
  match m with
  | .exact    => convExact r
  | .srcFloat => convSrcFloat r

/-- Conv of an axis word (R140, R142). -/
def convWord (m : Config.ConvMode) (w : Word16) : Int := convCount m (rawCount w)

/-- The value CONV writes to an axis register: `bits_32(Conv({high, low}))` (R140). -/
def convAxis (m : Config.ConvMode) (high low : Byte) : Word32 := BitVec.ofInt 32 (convWord m (axisWord high low))

/-- CONV's effect (R140, R141). -/
def effectConv (s : State) : State :=
  if s.errGate then
    { s with state := if s.params.emitOnError then encode .pack else encode .poll }
  else
    { s with
      ax := convAxis s.params.convMode s.xh s.xl
      ay := convAxis s.params.convMode s.yh s.yl
      az := convAxis s.params.convMode s.zh s.zl
      state := encode .pack }

/-- CONV (R140). -/
def execConv (s : State) : Host.Outcome State Fault Refusal := .next (effectConv s)

end Sys2Proof.Machine
end

