-- ==== Sys2Proof/Machine/Frame.lean ====
section
/-!
DEFINITION. The frame packer (43_pack_emit.md): PACK (R160) and EMIT (R162).
-/
namespace Sys2Proof.Machine

/-- The writes of PACK, in the order of R160: the bytes of AX at 1..4, of AY at 5..8, of AZ at 9..12, then the header and the
footer, which are hardwired. -/
def packWrites (ax ay az : Word32) : List (Fin 14 × Byte) :=
  [(1, byteOf ax 0), (2, byteOf ax 1), (3, byteOf ax 2), (4, byteOf ax 3),
   (5, byteOf ay 0), (6, byteOf ay 1), (7, byteOf ay 2), (8, byteOf ay 3),
   (9, byteOf az 0), (10, byteOf az 1), (11, byteOf az 2), (12, byteOf az 3),
   (0, Config.frameHdr), (13, Config.frameFtr)]

/-- PACK's effect (R160). -/
def effectPack (s : State) : State :=
  { frameWrites (packWrites s.ax s.ay s.az) s with state := encode .emit }

/-- EMIT's effect (R162): the 14 bytes in offset order; TX_IDX is 0 when it has completed (R81). All 14 are sent
whatever TX_IDX is before (DEDUCED, log 12). -/
def effectEmit (s : State) : State :=
  { emitBytes (frameBytes s) s with txIdx := 0#4, state := encode .poll }

/-- PACK (R160). -/
def execPack (s : State) : Host.Outcome State Fault Refusal := .next (effectPack s)
/-- EMIT (R162). -/
def execEmit (s : State) : Host.Outcome State Fault Refusal := .next (effectEmit s)

end Sys2Proof.Machine
end

