-- ==== Sys2Proof/Machine/Dispatch.lean ====
section
/-!
DEFINITION. The dispatch: one arm per operation of opcode_table.json.
-/
namespace Sys2Proof.Machine

def exec (i : Instr) (s : State) : Host.Outcome State Fault Refusal :=
  match i with
  -- CONFIG phase (40_configure.md)
  | .idRd => Sys2Proof.Machine.execIdRd s
  | .c1Rd => Sys2Proof.Machine.execC1Rd s
  | .c1Wr => Sys2Proof.Machine.execC1Wr s
  | .c1Vr => Sys2Proof.Machine.execC1Vr s
  | .c4Rd => Sys2Proof.Machine.execC4Rd s
  | .c4Wr => Sys2Proof.Machine.execC4Wr s
  | .c4Vr => Sys2Proof.Machine.execC4Vr s
  -- acquisition (41_acquire.md)
  | .poll => Sys2Proof.Machine.execPoll s
  | .rdX => Sys2Proof.Machine.execRdX s
  | .rdY => Sys2Proof.Machine.execRdY s
  | .rdZ => Sys2Proof.Machine.execRdZ s
  -- conversion (42_convert.md)
  | .conv => Sys2Proof.Machine.execConv s
  -- frame (43_pack_emit.md)
  | .pack => Sys2Proof.Machine.execPack s
  | .emit => Sys2Proof.Machine.execEmit s

end Sys2Proof.Machine
end

