-- ==== Sys2Proof/Machine/Step.lean ====
section
/-!
DEFINITION. One step of the block at operation level (00_scope.md R19): reset has priority over every operation (60_exceptions.md
R184); else the state code selects an operation or the recovery step (30_encoding.md R76).
-/
namespace Sys2Proof.Machine

/-- One step. -/
def step (s : State) : Host.Outcome State Fault Refusal :=
  match s.rstNow with
  | some k => .next (s.popRst.resetDuring k)
  | none   =>
    match decode s.state with
    | .ok i    => exec i s.popRst
    | .error _ => .next (recover s.popRst)

/-- The state in which the next step runs the operation of a word. The block fetches no instruction (R66): the FSM state
register selects its operation, so the word's 4 bits go there. An operation starts with TXN_PENDING = 0 and TX_IDX = 0 (R37)
and with `rst` = 0 (R200) (DESIGN CHOICE, log 5). -/
def State.withFetchWord (s : State) (_nbits w : Nat) : State :=
  { s with state := BitVec.ofNat 4 w, txnPending := false, txIdx := 0#4, rstIn := [] }

end Sys2Proof.Machine
end

