-- ==== Sys2Proof/Machine/Cycle.lean ====
section
/-!
DEFINITION. The cycle level (30_encoding.md R77 to R81, 70_reset_and_hazards.md R200, R201, R217): one rising edge of `clk`
at a time, over the same State, with the ports as arguments and results. No meaning of the operation level depends on it (R19).
-/
namespace Sys2Proof.Machine

/-- The input ports of R77 in one cycle (`clk` is the step itself). -/
structure PortIn where
  rst      : Bool
  rspValid : Bool
  rspErr   : Bool
  rspData  : Word16
deriving DecidableEq, Repr

/-- The output ports of R77 in one cycle. `reqDesc` is `none` while req_valid = 0: the spec states no value then (DESIGN CHOICE, log 11). -/
structure PortOut where
  reqValid  : Bool
  reqDesc   : Option Word32
  txValid   : Bool
  txData    : Byte
  sifStatus : Word32
deriving DecidableEq, Repr

/-- The response sampled on the ports (R75, R78). -/
def PortIn.response (p : PortIn) : Response := { err := p.rspErr, data := p.rspData }

/-- A cycle of a transport operation (R78). TXN_PENDING = 0 marks its first cycle, in which rsp_valid is ignored (DEDUCED, log 15); then the
request is held until a cycle with rsp_valid = 1, which completes the operation. -/
def handshake (d : Desc) (fin : Response → State → State) (p : PortIn) (s : State) : State :=
  if s.txnPending then
    if p.rspValid then fin p.response (s.logTxn d p.response) else s
  else s.holdRequest

/-- A cycle of EMIT (R80, R81): the byte FRAME[TX_IDX] is presented; after byte 13 the operation completes. -/
def emitCycle (s : State) : State :=
  let t := emitBytes [txByte s s.txIdx] s
  if s.txIdx = 13#4 then { t with txIdx := 0#4, state := encode .poll } else { t with txIdx := s.txIdx + 1#4 }

/-- A cycle of an operation. CONV and PACK take one cycle (R217). -/
def cycleOp (i : Instr) (p : PortIn) (s : State) : State :=
  match i with
  | .idRd => handshake descIdRd finishIdRd p s
  | .c1Rd => handshake descC1Rd finishC1Rd p s
  | .c1Wr => handshake descC1Wr finishC1Wr p s
  | .c1Vr => handshake descC1Vr finishC1Vr p s
  | .c4Rd => handshake descC4Rd finishC4Rd p s
  | .c4Wr => handshake descC4Wr finishC4Wr p s
  | .c4Vr => handshake descC4Vr finishC4Vr p s
  | .poll => handshake descPoll finishPoll p s
  | .rdX  => handshake descRdX finishRdX p s
  | .rdY  => handshake descRdY finishRdY p s
  | .rdZ  => handshake descRdZ finishRdZ p s
  | .conv => effectConv s
  | .pack => effectPack s
  | .emit => emitCycle s

/-- The registers after one rising edge. `rst` has priority (R184, R200); an unassigned code takes the recovery step in one
cycle (R205, R217). -/
def cycle (p : PortIn) (s : State) : State :=
  if p.rst then s.resetNow
  else
    match decode s.state with
    | .ok i    => cycleOp i p s
    | .error _ => recover s

/-- The registers after a sequence of cycles, given their inputs. -/
def cycles : List PortIn → State → State
  | [], s      => s
  | p :: ps, s => cycles ps (cycle p s)

/-- The descriptor the state code drives, if it is a transport operation's (R74). -/
def State.currentDesc (s : State) : Option Desc :=
  match decode s.state with
  | .ok i    => descOf i
  | .error _ => none

/-- Whether EMIT is running (R80). -/
def State.emitting (s : State) : Bool := s.state == encode .emit

/-- The outputs during a cycle (R77, R78, R80, R35). While `rst` = 1 both valid signals are 0 (R200). -/
def ports (rst : Bool) (s : State) : PortOut :=
  { reqValid  := !rst && s.currentDesc.isSome
    reqDesc   := if rst then none else s.currentDesc.map encodeDesc
    txValid   := !rst && s.emitting
    txData    := if !rst && s.emitting then txByte s s.txIdx else 0#8
    sifStatus := s.sifStatus }

/-- A cycle in which neither `rst` nor a response arrives. -/
def quietIn : PortIn := { rst := false, rspValid := false, rspErr := false, rspData := 0#16 }

/-- A cycle in which the response `r` arrives. -/
def answerIn (r : Response) : PortIn := { rst := false, rspValid := true, rspErr := r.err, rspData := r.data }

/-- A cycle in which `rst` is asserted. -/
def resetIn : PortIn := { rst := true, rspValid := false, rspErr := false, rspData := 0#16 }

end Sys2Proof.Machine
end

