-- ==== Sys2Proof/Machine/Trace.lean ====
section
/-!
DEFINITION. The trace of a run (30_encoding.md R85) and the pseudo-operations CONFIG and CYCLE (R86). Notation only: no meaning
depends on it.
-/
namespace Sys2Proof.Machine

/-- The mnemonic of an operation (R70). -/
def mnemonic : Instr → String
  | .idRd => "ID_RD"
  | .c1Rd => "C1_RD"
  | .c1Wr => "C1_WR"
  | .c1Vr => "C1_VR"
  | .c4Rd => "C4_RD"
  | .c4Wr => "C4_WR"
  | .c4Vr => "C4_VR"
  | .poll => "POLL"
  | .rdX  => "RD_X"
  | .rdY  => "RD_Y"
  | .rdZ  => "RD_Z"
  | .conv => "CONV"
  | .pack => "PACK"
  | .emit => "EMIT"

/-- One line of a trace: the operation that completed, the response of its transaction, the bytes it emitted. -/
structure TraceLine where
  op      : Instr
  rsp     : Option Response
  emitted : List Byte
deriving DecidableEq, Repr

/-- One hexadecimal digit. -/
def hexDigit (n : Nat) : Char :=
  ['0', '1', '2', '3', '4', '5', '6', '7', '8', '9', 'A', 'B', 'C', 'D', 'E', 'F'].getD n '?'

/-- A byte as two digits (DESIGN CHOICE, log 16). -/
def hexByte (b : Byte) : String := String.ofList [hexDigit (b.toNat / 16), hexDigit (b.toNat % 16)]

/-- The response part of a line (R85): `-> err`, `-> ok`, or `-> ok` with the bytes the transaction carries. -/
def renderResponse (k : Kind) (r : Response) : String :=
  if r.err then " -> err"
  else
    match k with
    | .wr1 => " -> ok"
    | .rd1 => " -> ok 0x" ++ hexByte (data0 r)
    | .rdn => " -> ok 0x" ++ hexByte (data0 r) ++ ", 0x" ++ hexByte (data1 r)

/-- A line of the trace syntax of R85. -/
def TraceLine.render (l : TraceLine) : String :=
  match descOf l.op, l.rsp with
  | some d, some r => mnemonic l.op ++ renderResponse d.kind r
  | _, _           => if l.emitted = [] then mnemonic l.op
                      else mnemonic l.op ++ " =>" ++ String.join (l.emitted.map (fun b => " " ++ hexByte b))

/-- The line of the operation that completes in the next step, if one does: a waiting transport operation, a reset and the
recovery step complete none. -/
def traceLine (s : State) : Option TraceLine :=
  match s.rstNow, decode s.state with
  | none, .ok i =>
    match descOf i with
    | some _ => s.nextReply.map (fun r => { op := i, rsp := some r, emitted := [] })
    | none   => some { op := i, rsp := none, emitted := if i = .emit then frameBytes s else [] }
  | _, _ => none

/-- The trace of `n` steps. -/
def traceRun : Nat → State → List TraceLine
  | 0, _     => []
  | n + 1, s =>
    (traceLine s).toList ++
      (match step s with
       | .next t    => traceRun n t
       | .fault _   => []
       | .refused _ => [])

/-- The pseudo-operation CONFIG (R86); `written` says whether R101 selects the bracketed pair. -/
def configOps (written : Bool) : List Instr :=
  [.idRd, .c1Rd] ++ (if written then [.c1Wr, .c1Vr] else []) ++ [.c4Rd, .c4Wr, .c4Vr]

/-- The pseudo-operation CYCLE with `k` polls (R86); `emits` is false when R141 skips PACK and EMIT. -/
def cycleOps (k : Nat) (emits : Bool) : List Instr :=
  List.replicate k .poll ++ [.rdX, .rdY, .rdZ, .conv] ++ (if emits then [.pack, .emit] else [])

end Sys2Proof.Machine
end

