-- ==== Sys2Proof/Safety.lean ====
section
/-!
DEFINITION. The terms in which claims speak of a run: what a safe step is, the operation boundary (10_state.md R37), the
reachability invariant (70_reset_and_hazards.md R206 with the ranges of 10_state.md), the framing of OUT (43_pack_emit.md R163).
-/
namespace Sys2Proof.Machine

/-- `n` steps of the machine the host runs, stopping at the first fault or refusal. -/
def run (n : Nat) (s : State) : Host.Outcome State Fault Refusal := Sys2Proof.core.run n s

/-- A step is safe when it answers a next state: no fault, no refusal (R181). -/
def StepSafe (s : State) : Prop := ∃ t, step s = .next t

/-- An operation boundary: no request outstanding, no byte of EMIT presented (R37). -/
def AtBoundary (s : State) : Prop := s.txnPending = false ∧ s.txIdx = 0#4

/-- The range of AX, AY and AZ (R28, R147). -/
def InAxisRange (v : Word32) : Prop := -40181 ≤ v.toInt ∧ v.toInt ≤ 40162

/-- What holds in every run from reset. -/
structure Inv (s : State) : Prop where
  /-- R206.1: the state code is one of the 14 assigned ones. -/
  assigned : s.state.toNat ≤ 0xD
  /-- R206.2. -/
  done_iff : s.flags.cfgDone = true ↔ 0x7 ≤ s.state.toNat
  /-- R206.3. -/
  legal : s.flags.illegalState = false
  /-- R206.4. -/
  poll_lt : 0 < s.params.pollLimit.toNat → s.pollCnt.toNat < s.params.pollLimit.toNat
  /-- R28. -/
  ax_range : InAxisRange s.ax
  /-- R28. -/
  ay_range : InAxisRange s.ay
  /-- R28. -/
  az_range : InAxisRange s.az
  /-- R35: the legal values of LAST_ERR_STATE. -/
  lastErr : s.lastErrState.toNat ≤ 0xA ∨ s.lastErrState = 0xF#4
  /-- R180: an error is recorded in LAST_ERR_STATE and a sticky flag together. -/
  err_iff : s.lastErrState = 0xF#4 ↔ s.flags.cfgErr = false ∧ s.flags.acqErr = false
  /-- The frame buffer is in its canonical form. -/
  frame_wf : s.frame.wf = true
  /-- R37, R78: only a transport operation has a request outstanding. -/
  pending : s.txnPending = true → s.state.toNat ≤ 0xA
  /-- R37, R81: TX_IDX is 0 except inside EMIT. -/
  txIdle : s.txIdx ≠ 0#4 → s.state = encode .emit
  /-- R81: TX_IDX never passes the last byte's index. -/
  txRange : s.txIdx.toNat ≤ 13

/-- Every 14-byte group begins with 0xA0 and ends with 0xC0, and nothing is left over (R163). -/
def Framed (bs : List Byte) : Prop :=
  ∃ fs : List (List Byte), bs = fs.flatten ∧
    ∀ f ∈ fs, f.length = 14 ∧ f.head? = some 0xA0#8 ∧ f.getLast? = some 0xC0#8

/-- The frame bytes of three axis values, in the layout of R82. -/
def frameOf (x y z : Word32) : List Byte :=
  [0xA0#8,
   x.extractLsb' 0 8, x.extractLsb' 8 8, x.extractLsb' 16 8, x.extractLsb' 24 8,
   y.extractLsb' 0 8, y.extractLsb' 8 8, y.extractLsb' 16 8, y.extractLsb' 24 8,
   z.extractLsb' 0 8, z.extractLsb' 8 8, z.extractLsb' 16 8, z.extractLsb' 24 8,
   0xC0#8]

/-- The descriptor words the block ever issues (R55, R74). -/
def issuedWords : List Word32 :=
  [0x01180F00#32, 0x01182000#32, 0x81182057#32, 0x01182300#32, 0x81182398#32, 0x01182700#32,
   0x42182800#32, 0x42182A00#32, 0x42182C00#32]

/-- The transport operations are codes 0x0 to 0xA (R78). -/
def IsTransport (i : Instr) : Prop := (encode i).toNat ≤ 0xA

/-- The registers of 10_state.md agree, whatever the traces, parameters and inputs are: FRAME through its bytes. -/
def SameRegisters (s t : State) : Prop :=
  s.state = t.state ∧ s.idVal = t.idVal ∧ s.c1Val = t.c1Val ∧ s.c4Val = t.c4Val ∧ s.stVal = t.stVal ∧
  s.xl = t.xl ∧ s.xh = t.xh ∧ s.yl = t.yl ∧ s.yh = t.yh ∧ s.zl = t.zl ∧ s.zh = t.zh ∧
  s.errGate = t.errGate ∧ s.ax = t.ax ∧ s.ay = t.ay ∧ s.az = t.az ∧
  (∀ off, frameRead s off = frameRead t off) ∧ s.flags = t.flags ∧ s.lastErrState = t.lastErrState ∧
  s.pollCnt = t.pollCnt ∧ s.txnPending = t.txnPending ∧ s.txIdx = t.txIdx

end Sys2Proof.Machine
end

