-- ==== Sys2Proof/Certificates/Slice0/Obligations.lean ====
section
/-!
DEFINITION. The statements for the provers. Each docstring names the rules of spec/ a statement formalises. The statements of
an operation's result say when the operation completes, every value it writes and, by naming only those fields, its frame.
-/
open Sys2Proof Sys2Proof.Machine

/-! ### Encodings -/

/-- R70: the code of every operation; 0xE and 0xF are unassigned. -/
def Obligations.StateCodesDecodeAsTabled : Prop :=
  decode 0b0000#4 = .ok .idRd ∧ decode 0b0001#4 = .ok .c1Rd ∧ decode 0b0010#4 = .ok .c1Wr ∧
  decode 0b0011#4 = .ok .c1Vr ∧ decode 0b0100#4 = .ok .c4Rd ∧ decode 0b0101#4 = .ok .c4Wr ∧
  decode 0b0110#4 = .ok .c4Vr ∧ decode 0b0111#4 = .ok .poll ∧ decode 0b1000#4 = .ok .rdX ∧
  decode 0b1001#4 = .ok .rdY ∧ decode 0b1010#4 = .ok .rdZ ∧ decode 0b1011#4 = .ok .conv ∧
  decode 0b1100#4 = .ok .pack ∧ decode 0b1101#4 = .ok .emit ∧
  decode 0b1110#4 = .error (.unassigned 0b1110#4) ∧ decode 0b1111#4 = .error (.unassigned 0b1111#4)

/-- Encoding and decoding of operations agree both ways (R70, R76). -/
def Obligations.StateCodesRoundTrip : Prop :=
  (∀ i, decode (encode i) = .ok i) ∧ ∀ c i, decode c = .ok i → encode i = c

/-- R74: the descriptor of every transport operation, by its fields and as the word driven on `req_desc`; CONV, PACK and EMIT
issue none. -/
def Obligations.OperationsIssueTheirDescriptors : Prop :=
  (∀ row ∈ ([(.idRd, .rd1, 1#4, 0x0F#8, 0x00#8, 0x01180F00#32), (.c1Rd, .rd1, 1#4, 0x20#8, 0x00#8, 0x01182000#32),
      (.c1Wr, .wr1, 1#4, 0x20#8, 0x57#8, 0x81182057#32), (.c1Vr, .rd1, 1#4, 0x20#8, 0x00#8, 0x01182000#32),
      (.c4Rd, .rd1, 1#4, 0x23#8, 0x00#8, 0x01182300#32), (.c4Wr, .wr1, 1#4, 0x23#8, 0x98#8, 0x81182398#32),
      (.c4Vr, .rd1, 1#4, 0x23#8, 0x00#8, 0x01182300#32), (.poll, .rd1, 1#4, 0x27#8, 0x00#8, 0x01182700#32),
      (.rdX, .rdn, 2#4, 0x28#8, 0x00#8, 0x42182800#32), (.rdY, .rdn, 2#4, 0x2A#8, 0x00#8, 0x42182A00#32),
      (.rdZ, .rdn, 2#4, 0x2C#8, 0x00#8, 0x42182C00#32)] : List (Instr × Kind × BitVec 4 × Byte × Byte × Word32)),
    let d : Desc := { kind := row.2.1, count := row.2.2.1, dev := 0x18#7, reg := row.2.2.2.1, wdata := row.2.2.2.2.1 }
    descOf row.1 = some d ∧ encodeDesc d = row.2.2.2.2.2) ∧
  descOf .conv = none ∧ descOf .pack = none ∧ descOf .emit = none

/-- Format T: decoding the encoding of a well-formed descriptor gives it back, every operand at every value (R72, R73). -/
def Obligations.DescriptorDecodeOfEncode : Prop :=
  ∀ d : Desc, d.wf = true → decodeDesc (encodeDesc d) = .ok d

/-- Format T, the other direction: a word that decodes is the encoding of a well-formed descriptor; the reserved KIND and the
reserved bits are rejected, each by its name (R72, R73, R83; that a decoder of format T exists is the model's, log 13). -/
def Obligations.DescriptorEncodeOfDecode : Prop :=
  ∀ w : Word32,
    (∀ d : Desc, decodeDesc w = .ok d → d.wf = true ∧ encodeDesc d = w) ∧
    (w.extractLsb' 30 2 = 0b11#2 → decodeDesc w = .error .reservedKind) ∧
    (w.extractLsb' 30 2 ≠ 0b11#2 → (w.getLsbD 29 || w.getLsbD 28 || w.getLsbD 23) = true →
      decodeDesc w = .error .reservedBits)

/-! ### The step -/

/-- While `rst` is not asserted, a step is the operation the state code selects, run after the step's `rst` input is used up
(R76; the list of `rst` inputs is the model's, log 3). -/
def Obligations.StepRunsSelectedOperation : Prop :=
  ∀ (s : State) (i : Instr), s.rstNow = none → decode s.state = .ok i →
    step s = exec i { s with rstIn := s.rstIn.tail }

/-- R205: the recovery step, and nothing else; and no step, reset steps included, leads from the codes 0x0 to 0xD, where a
run from reset starts, to 0xE or 0xF. -/
def Obligations.RecoveryStepGoesToPoll : Prop :=
  (∀ s : State, s.rstNow = none → (s.state = 0xE#4 ∨ s.state = 0xF#4) →
    step s = .next { s with rstIn := s.rstIn.tail, flags := { s.flags with illegalState := true }, state := 0x7#4 }) ∧
  State.reset.state = 0x0#4 ∧
  ∀ s t : State, s.state ≠ 0xE#4 → s.state ≠ 0xF#4 → step s = .next t → t.state ≠ 0xE#4 ∧ t.state ≠ 0xF#4

/-- No step ends in a fault or a refusal: the block has no terminal state (R181, R212); and no step changes the parameters
(R207). That a step answers even when a transport operation gets no answer is the model's choice (DESIGN CHOICE, log 2): R194
says that such an operation has no step until its response is drawn. -/
def Obligations.EveryStepAnswersNext : Prop := ∀ s : State, StepSafe s ∧ ∀ t, step s = .next t → t.params = s.params

/-! ### CONFIG operations -/

/-- R100. -/
def Obligations.IdRdResult : Prop :=
  encode .idRd = 0b0000#4 ∧
  ∀ (s : State) (r : Response), s.nextReply = some r →
    exec .idRd s = .next { s.popReply with
      txnPending := false
      req := s.req ++ [{ desc := 0x01180F00#32, rsp := some r }]
      idVal := if r.err then s.idVal else r.data.extractLsb' 0 8
      flags := { s.flags with
        cfgErr := s.flags.cfgErr || r.err
        idMismatch := r.err || r.data.extractLsb' 0 8 != 0x33#8 }
      lastErrState := if r.err then 0x0#4 else s.lastErrState
      state := 0x1#4 }

/-- R101. -/
def Obligations.C1RdResult : Prop :=
  encode .c1Rd = 0b0001#4 ∧
  ∀ (s : State) (r : Response), s.nextReply = some r →
    exec .c1Rd s = .next { s.popReply with
      txnPending := false
      req := s.req ++ [{ desc := 0x01182000#32, rsp := some r }]
      c1Val := if r.err then s.c1Val else r.data.extractLsb' 0 8
      flags := { s.flags with cfgErr := s.flags.cfgErr || r.err }
      lastErrState := if r.err then 0x1#4 else s.lastErrState
      state := if r.err = true ∨ r.data.extractLsb' 0 8 ≠ 0x57#8 then 0x2#4 else 0x4#4 }

/-- R102. -/
def Obligations.C1WrResult : Prop :=
  encode .c1Wr = 0b0010#4 ∧
  ∀ (s : State) (r : Response), s.nextReply = some r →
    exec .c1Wr s = .next { s.popReply with
      txnPending := false
      req := s.req ++ [{ desc := 0x81182057#32, rsp := some r }]
      flags := { s.flags with cfgErr := s.flags.cfgErr || r.err, c1Written := true }
      lastErrState := if r.err then 0x2#4 else s.lastErrState
      state := 0x3#4 }

/-- R103. -/
def Obligations.C1VrResult : Prop :=
  encode .c1Vr = 0b0011#4 ∧
  ∀ (s : State) (r : Response), s.nextReply = some r →
    exec .c1Vr s = .next { s.popReply with
      txnPending := false
      req := s.req ++ [{ desc := 0x01182000#32, rsp := some r }]
      c1Val := if r.err then s.c1Val else r.data.extractLsb' 0 8
      flags := { s.flags with
        cfgErr := s.flags.cfgErr || r.err
        c1Mismatch := r.err || r.data.extractLsb' 0 8 != 0x57#8 }
      lastErrState := if r.err then 0x3#4 else s.lastErrState
      state := 0x4#4 }

/-- R104. -/
def Obligations.C4RdResult : Prop :=
  encode .c4Rd = 0b0100#4 ∧
  ∀ (s : State) (r : Response), s.nextReply = some r →
    exec .c4Rd s = .next { s.popReply with
      txnPending := false
      req := s.req ++ [{ desc := 0x01182300#32, rsp := some r }]
      c4Val := if r.err then s.c4Val else r.data.extractLsb' 0 8
      flags := { s.flags with cfgErr := s.flags.cfgErr || r.err }
      lastErrState := if r.err then 0x4#4 else s.lastErrState
      state := 0x5#4 }

/-- R105. -/
def Obligations.C4WrResult : Prop :=
  encode .c4Wr = 0b0101#4 ∧
  ∀ (s : State) (r : Response), s.nextReply = some r →
    exec .c4Wr s = .next { s.popReply with
      txnPending := false
      req := s.req ++ [{ desc := 0x81182398#32, rsp := some r }]
      flags := { s.flags with cfgErr := s.flags.cfgErr || r.err }
      lastErrState := if r.err then 0x5#4 else s.lastErrState
      state := 0x6#4 }

/-- R106. -/
def Obligations.C4VrResult : Prop :=
  encode .c4Vr = 0b0110#4 ∧
  ∀ (s : State) (r : Response), s.nextReply = some r →
    exec .c4Vr s = .next { s.popReply with
      txnPending := false
      req := s.req ++ [{ desc := 0x01182300#32, rsp := some r }]
      c4Val := if r.err then s.c4Val else r.data.extractLsb' 0 8
      flags := { s.flags with
        cfgErr := s.flags.cfgErr || r.err
        c4Mismatch := r.err || r.data.extractLsb' 0 8 != 0x98#8
        cfgDone := true }
      lastErrState := if r.err then 0x6#4 else s.lastErrState
      state := 0x7#4 }

/-- R108: the two request sequences of the CONFIG phase and the operations that issue them, whatever the seven responses are,
for responses that come at once; either way the phase ends in POLL with CFG_DONE set, and emits nothing. -/
def Obligations.ConfigPhaseRequestSequences : Prop :=
  ∀ (s : State) (r0 r1 r2 r3 r4 r5 r6 : Response) (rest : List (Option Response)),
    s.state = 0x0#4 → s.txnPending = false → s.rstIn = [] →
    s.replies = [some r0, some r1, some r2, some r3, some r4, some r5, some r6] ++ rest →
    ((r1.err = false ∧ r1.data.extractLsb' 0 8 = 0x57#8) →
      ∃ t, run 5 s = .next t ∧ t.state = 0x7#4 ∧ t.flags.cfgDone = true ∧ t.out = s.out ∧
        (traceRun 5 s).map TraceLine.op = configOps false ∧
        t.reqTrace.map Txn.desc = s.req.map Txn.desc ++
          [0x01180F00#32, 0x01182000#32, 0x01182300#32, 0x81182398#32, 0x01182300#32]) ∧
    (¬ (r1.err = false ∧ r1.data.extractLsb' 0 8 = 0x57#8) →
      ∃ t, run 7 s = .next t ∧ t.state = 0x7#4 ∧ t.flags.cfgDone = true ∧ t.out = s.out ∧
        (traceRun 7 s).map TraceLine.op = configOps true ∧
        t.reqTrace.map Txn.desc = s.req.map Txn.desc ++
          [0x01180F00#32, 0x01182000#32, 0x81182057#32, 0x01182000#32, 0x01182300#32, 0x81182398#32, 0x01182300#32])

/-- R107: after CONFIG no step without reset leads back into it, the recovery step included. -/
def Obligations.ConfigPhaseNeverReentered : Prop :=
  ∀ s t : State, s.rstNow = none → step s = .next t → 0x7 ≤ s.state.toNat → 0x7 ≤ t.state.toNat ∧ t.state.toNat ≤ 0xD

/-! ### Acquisition operations -/

/-- R120, with R122's counter written out. -/
def Obligations.PollResult : Prop :=
  encode .poll = 0b0111#4 ∧
  ∀ (s : State) (r : Response), s.nextReply = some r →
    exec .poll s = .next (
      if r.err = false ∧ r.data.getLsbD 3 = true then
        { s.popReply with
          txnPending := false
          req := s.req ++ [{ desc := 0x01182700#32, rsp := some r }]
          stVal := r.data.extractLsb' 0 8
          pollCnt := 0#32
          state := 0x8#4 }
      else
        { s.popReply with
          txnPending := false
          req := s.req ++ [{ desc := 0x01182700#32, rsp := some r }]
          stVal := if r.err then s.stVal else r.data.extractLsb' 0 8
          flags := { s.flags with
            acqErr := s.flags.acqErr || r.err
            timeout := s.flags.timeout ||
              decide (0 < s.params.pollLimit.toNat ∧ s.pollCnt.toNat + 1 = s.params.pollLimit.toNat) }
          lastErrState := if r.err then 0x7#4 else s.lastErrState
          pollCnt :=
            if 0 < s.params.pollLimit.toNat ∧ s.pollCnt.toNat + 1 = s.params.pollLimit.toNat then 0#32
            else BitVec.ofNat 32 (s.pollCnt.toNat + 1)
          state := 0x7#4 })

/-- R121: bit 3 alone decides; the source's examples. -/
def Obligations.ReadyPredicateIsBitThree : Prop :=
  (∀ b : Byte, ready b = true ↔ b.extractLsb' 3 1 = 1#1) ∧
  ready 0x00#8 = false ∧ ready 0x08#8 = true ∧ ready 0xFF#8 = true ∧ ready 0xF7#8 = false

/-- R122: with a limit of n the n-th consecutive not-ready POLL sets TIMEOUT and restarts the count, below it the count is the
number of polls; without a limit no step sets TIMEOUT. -/
def Obligations.TimeoutAtPollLimit : Prop :=
  (∀ (s : State) (rs : List Response) (rest : List (Option Response)),
    s.state = 0x7#4 → s.rstIn = [] → s.pollCnt = 0#32 → 0 < s.params.pollLimit.toNat →
    (∀ r ∈ rs, ¬ (r.err = false ∧ r.data.getLsbD 3 = true)) → s.replies = rs.map some ++ rest →
    rs.length ≤ s.params.pollLimit.toNat →
    ∃ t, run rs.length s = .next t ∧ t.state = 0x7#4 ∧
      (rs.length < s.params.pollLimit.toNat → t.pollCnt.toNat = rs.length ∧ t.flags.timeout = s.flags.timeout) ∧
      (rs.length = s.params.pollLimit.toNat → t.pollCnt = 0#32 ∧ t.flags.timeout = true)) ∧
  (∀ s t : State, s.params.pollLimit = 0#32 → s.rstNow = none → step s = .next t → t.flags.timeout = s.flags.timeout)

/-- R123: POLL is left only by an answer `ok` with bit 3 set, and for RD_X; while no such answer comes, whether the transport
answers something else or nothing, the block stays in POLL for any number of steps and emits nothing, whatever POLL_LIMIT
is. -/
def Obligations.PollLeftOnlyWhenReady : Prop :=
  (∀ s t : State, s.rstNow = none → s.state = 0x7#4 → step s = .next t → t.state ≠ 0x7#4 →
    t.state = 0x8#4 ∧ ∃ r, s.nextReply = some r ∧ r.err = false ∧ r.data.getLsbD 3 = true) ∧
  (∀ (n : Nat) (s : State), s.state = 0x7#4 → s.rstIn = [] → n ≤ s.replies.length →
    (∀ r ∈ s.replies.take n, ∀ a, r = some a → ¬ (a.err = false ∧ a.data.getLsbD 3 = true)) →
    ∃ t, run n s = .next t ∧ t.state = 0x7#4 ∧ t.out = s.out)

/-- R124. -/
def Obligations.RdXResult : Prop :=
  encode .rdX = 0b1000#4 ∧
  ∀ (s : State) (r : Response), s.nextReply = some r →
    exec .rdX s = .next { s.popReply with
      txnPending := false
      req := s.req ++ [{ desc := 0x42182800#32, rsp := some r }]
      xl := if r.err then s.xl else r.data.extractLsb' 0 8
      xh := if r.err then s.xh else r.data.extractLsb' 8 8
      errGate := r.err
      flags := { s.flags with acqErr := s.flags.acqErr || r.err }
      lastErrState := if r.err then 0x8#4 else s.lastErrState
      state := 0x9#4 }

/-- R125. -/
def Obligations.RdYResult : Prop :=
  encode .rdY = 0b1001#4 ∧
  ∀ (s : State) (r : Response), s.nextReply = some r →
    exec .rdY s = .next { s.popReply with
      txnPending := false
      req := s.req ++ [{ desc := 0x42182A00#32, rsp := some r }]
      yl := if r.err then s.yl else r.data.extractLsb' 0 8
      yh := if r.err then s.yh else r.data.extractLsb' 8 8
      errGate := r.err
      flags := { s.flags with acqErr := s.flags.acqErr || r.err }
      lastErrState := if r.err then 0x9#4 else s.lastErrState
      state := 0xA#4 }

/-- R126. -/
def Obligations.RdZResult : Prop :=
  encode .rdZ = 0b1010#4 ∧
  ∀ (s : State) (r : Response), s.nextReply = some r →
    exec .rdZ s = .next { s.popReply with
      txnPending := false
      req := s.req ++ [{ desc := 0x42182C00#32, rsp := some r }]
      zl := if r.err then s.zl else r.data.extractLsb' 0 8
      zh := if r.err then s.zh else r.data.extractLsb' 8 8
      errGate := r.err
      flags := { s.flags with acqErr := s.flags.acqErr || r.err }
      lastErrState := if r.err then 0xA#4 else s.lastErrState
      state := 0xB#4 }

/-- R127: on entry to CONV the gate is RD_Z's error alone, a failed axis keeps its bytes, and ACQ_ERR and LAST_ERR_STATE record
every error, the last one's code standing; CONV then converts the bytes held, those of a failed X or Y read included, or, when
RD_Z failed, no axis. -/
def Obligations.LastAxisErrorGates : Prop :=
  ∀ (s : State) (x y z : Response) (rest : List (Option Response)),
    s.state = 0x8#4 → s.rstIn = [] → s.replies = [some x, some y, some z] ++ rest →
    ∃ t, run 3 s = .next t ∧ t.state = 0xB#4 ∧ t.errGate = z.err ∧
      t.flags.acqErr = (s.flags.acqErr || x.err || y.err || z.err) ∧
      t.lastErrState = (if z.err then 0xA#4 else if y.err then 0x9#4 else if x.err then 0x8#4 else s.lastErrState) ∧
      (t.xh ++ t.xl = if x.err then s.xh ++ s.xl else x.data) ∧
      (t.yh ++ t.yl = if y.err then s.yh ++ s.yl else y.data) ∧
      (t.zh ++ t.zl = if z.err then s.zh ++ s.zl else z.data) ∧
      ∃ u, step t = .next u ∧
        (z.err = true → u.ax = s.ax ∧ u.ay = s.ay ∧ u.az = s.az) ∧
        (z.err = false →
          u.ax = BitVec.ofInt 32 (convWord s.params.convMode (if x.err then s.xh ++ s.xl else x.data)) ∧
          u.ay = BitVec.ofInt 32 (convWord s.params.convMode (if y.err then s.yh ++ s.yl else y.data)) ∧
          u.az = BitVec.ofInt 32 (convWord s.params.convMode z.data))

/-- R129: the request sequence of one acquisition cycle, from POLL to CONV, and the operations of R86's CYCLE up to there, for
every number of polls that are not ready and for responses that come at once. -/
def Obligations.AcquisitionCycleRequests : Prop :=
  ∀ (s : State) (ps : List Response) (p x y z : Response) (rest : List (Option Response)),
    s.state = 0x7#4 → s.txnPending = false → s.rstIn = [] →
    (∀ r ∈ ps, ¬ (r.err = false ∧ r.data.getLsbD 3 = true)) → p.err = false → p.data.getLsbD 3 = true →
    s.replies = ps.map some ++ [some p, some x, some y, some z] ++ rest →
    ∃ t, run (ps.length + 4) s = .next t ∧ t.state = 0xB#4 ∧
      (traceRun (ps.length + 4) s).map TraceLine.op = List.replicate (ps.length + 1) .poll ++ [.rdX, .rdY, .rdZ] ∧
      t.reqTrace.map Txn.desc = s.req.map Txn.desc ++ List.replicate (ps.length + 1) 0x01182700#32 ++
        [0x42182800#32, 0x42182A00#32, 0x42182C00#32]

/-! ### Transport: answers, waiting, errors -/

/-- R194 at the operation level: without an answer a transport operation changes no register, no flag, no byte of the frame
and neither trace; only the draw is used up. That the model takes a step here at all is its choice (DESIGN CHOICE, log 2). -/
def Obligations.UnansweredOperationWaits : Prop :=
  ∀ (s : State) (i : Instr), (descOf i).isSome = true → s.nextReply = none →
    ∃ rs n, exec i s = .next { s with replies := rs, drawIdx := n } ∧
      (∀ q, s.replies = none :: q → rs = q ∧ n = s.drawIdx) ∧ (s.replies = [] → rs = [] ∧ n = s.drawIdx + 1)

/-- R75: what of a response is ignored. Two responses that differ only there leave the same state, the recorded response in
REQ apart. -/
def Obligations.IgnoredResponseBits : Prop :=
  ∀ (s : State) (i : Instr) (d : Desc) (r r' : Response) (rs : List (Option Response)),
    descOf i = some d → r.err = r'.err →
    (r.err = true ∨ d.kind = .wr1 ∨ (d.kind = .rd1 ∧ r.data.extractLsb' 0 8 = r'.data.extractLsb' 0 8)) →
    ∃ t t', exec i { s with replies := some r :: rs } = .next t ∧ exec i { s with replies := some r' :: rs } = .next t' ∧
      { t with req := [] } = { t' with req := [] } ∧ t.req.map Txn.desc = t'.req.map Txn.desc

/-- R180: each failed operation, its code in LAST_ERR_STATE, the register address of the failed transaction, the sticky flag;
the other sticky flag stays. -/
def Obligations.FailedTransactionIsRecorded : Prop :=
  ∀ row ∈ ([(.idRd, 0x0#4, 0x0F#8, true), (.c1Rd, 0x1#4, 0x20#8, true), (.c1Wr, 0x2#4, 0x20#8, true),
      (.c1Vr, 0x3#4, 0x20#8, true), (.c4Rd, 0x4#4, 0x23#8, true), (.c4Wr, 0x5#4, 0x23#8, true),
      (.c4Vr, 0x6#4, 0x23#8, true), (.poll, 0x7#4, 0x27#8, false), (.rdX, 0x8#4, 0x28#8, false),
      (.rdY, 0x9#4, 0x2A#8, false), (.rdZ, 0xA#4, 0x2C#8, false)] : List (Instr × Code × Byte × Bool)),
    ∀ (s : State) (r : Response), s.nextReply = some r → r.err = true →
      ∃ t q, exec row.1 s = .next t ∧ t.lastErrState = row.2.1 ∧
        t.req = s.req ++ [q] ∧ q.rsp = some r ∧ q.desc.extractLsb' 8 8 = row.2.2.1 ∧
        t.flags.cfgErr = (s.flags.cfgErr || row.2.2.2) ∧ t.flags.acqErr = (s.flags.acqErr || !row.2.2.2)

/-- One step issues at most one request, it is the one of a descriptor of R74's table, and REQ never loses an entry (R55, R63,
R79). An answered step appends its request with the answer; a reset appends the outstanding one. -/
def Obligations.AtMostOneRequestPerStep : Prop :=
  ∀ s t : State, step s = .next t →
    t.req = s.req ∨ ∃ q, t.req = s.req ++ [q] ∧ q.desc ∈ issuedWords

/-- R42, the write matrix, for every operation and the two unassigned codes: which registers may change, and which change only
on a successful (ok) or only on a failed (err) transaction. -/
def Obligations.WriteMatrix : Prop :=
  (∀ (i : Instr) (s t : State), exec i s = .next t →
    (i ≠ .idRd → t.idVal = s.idVal ∧ t.flags.idMismatch = s.flags.idMismatch) ∧
    (i ≠ .c1Rd → i ≠ .c1Vr → t.c1Val = s.c1Val) ∧
    (i ≠ .c1Wr → t.flags.c1Written = s.flags.c1Written) ∧
    (i ≠ .c1Vr → t.flags.c1Mismatch = s.flags.c1Mismatch) ∧
    (i ≠ .c4Rd → i ≠ .c4Vr → t.c4Val = s.c4Val) ∧
    (i ≠ .c4Vr → t.flags.c4Mismatch = s.flags.c4Mismatch ∧ t.flags.cfgDone = s.flags.cfgDone) ∧
    (i ≠ .poll → t.stVal = s.stVal ∧ t.pollCnt = s.pollCnt ∧ t.flags.timeout = s.flags.timeout) ∧
    (i ≠ .rdX → t.xl = s.xl ∧ t.xh = s.xh) ∧
    (i ≠ .rdY → t.yl = s.yl ∧ t.yh = s.yh) ∧
    (i ≠ .rdZ → t.zl = s.zl ∧ t.zh = s.zh) ∧
    (i ≠ .rdX → i ≠ .rdY → i ≠ .rdZ → t.errGate = s.errGate) ∧
    (i ≠ .conv ∨ s.errGate = true → t.ax = s.ax ∧ t.ay = s.ay ∧ t.az = s.az) ∧
    (i ≠ .pack → ∀ off, frameRead t off = frameRead s off) ∧
    (frameRead t 0 = frameRead s 0 ∧ frameRead t 13 = frameRead s 13) ∧
    (0x6 < (encode i).toNat → t.flags.cfgErr = s.flags.cfgErr) ∧
    ((encode i).toNat < 0x7 ∨ 0xA < (encode i).toNat → t.flags.acqErr = s.flags.acqErr) ∧
    (0xA < (encode i).toNat → t.lastErrState = s.lastErrState) ∧
    t.flags.illegalState = s.flags.illegalState ∧
    (i ≠ .emit → t.out = s.out) ∧
    (∀ r, s.nextReply = some r → r.err = true →
      t.idVal = s.idVal ∧ t.c1Val = s.c1Val ∧ t.c4Val = s.c4Val ∧ t.stVal = s.stVal ∧
      t.xl = s.xl ∧ t.xh = s.xh ∧ t.yl = s.yl ∧ t.yh = s.yh ∧ t.zl = s.zl ∧ t.zh = s.zh) ∧
    (∀ r, s.nextReply = some r → r.err = false →
      t.flags.cfgErr = s.flags.cfgErr ∧ t.flags.acqErr = s.flags.acqErr ∧ t.lastErrState = s.lastErrState)) ∧
  (∀ s t : State, s.rstNow = none → 0xD < s.state.toNat → step s = .next t →
    { t with rstIn := s.rstIn, state := s.state, flags := { t.flags with illegalState := s.flags.illegalState } } = s)

/-! ### Conversion -/

/-- R140: CONV converts the three axes together, or none. -/
def Obligations.ConvResult : Prop :=
  encode .conv = 0b1011#4 ∧
  ∀ s : State, exec .conv s = .next (
    if s.errGate = false then
      { s with
        ax := BitVec.ofInt 32 (convWord s.params.convMode (s.xh ++ s.xl))
        ay := BitVec.ofInt 32 (convWord s.params.convMode (s.yh ++ s.yl))
        az := BitVec.ofInt 32 (convWord s.params.convMode (s.zh ++ s.zl))
        state := 0xC#4 }
    else { s with state := if s.params.emitOnError = true then 0xC#4 else 0x7#4 })

/-- R141: in a gated cycle the last computed values are packed and emitted, or PACK and EMIT are skipped and the payload
stays; the conversion is skipped in both cases. -/
def Obligations.GatedCycleFollowsPolicy : Prop :=
  ∀ s : State, s.state = 0xB#4 → s.rstIn = [] → s.frame.wf = true → s.errGate = true →
    (s.params.emitOnError = true →
      ∃ t, run 3 s = .next t ∧ t.state = 0x7#4 ∧ t.out = s.out ++ frameOf s.ax s.ay s.az ∧
        t.ax = s.ax ∧ t.ay = s.ay ∧ t.az = s.az ∧ t.req = s.req) ∧
    (s.params.emitOnError = false →
      ∃ t, run 1 s = .next t ∧ t.state = 0x7#4 ∧ t.out = s.out ∧ (∀ off, frameRead t off = frameRead s off) ∧
        t.ax = s.ax ∧ t.ay = s.ay ∧ t.az = s.az ∧ t.req = s.req)

/-- R142: the raw count's two forms agree, its range, and the low four bits do not count. -/
def Obligations.RawCountForms : Prop :=
  ∀ w : Word16, rawCount w = (w.extractLsb' 4 12).toInt ∧ -2048 ≤ rawCount w ∧ rawCount w ≤ 2047 ∧
    ∀ v : Word16, v.extractLsb' 4 12 = w.extractLsb' 4 12 → rawCount v = rawCount w

/-- R143: EXACT is `r * 2 * 981 / 100` truncated toward zero. -/
def Obligations.ExactConversionTruncates : Prop :=
  ∀ w : Word16, convWord .exact w = (rawCount w * 2 * 981).tdiv 100

/-- EXACT equals the three binary64 forms of R144 at every raw count. R144 names no rounding attribute: that its products and
quotients round to nearest, ties to even, is taken from outside the rule (PRESUMED, log 7). -/
def Obligations.ExactEqualsBinary64Forms : Prop :=
  ∀ r : Int, -2048 ≤ r → r ≤ 2047 →
    convExact r = (((Binary64.ofInt r).mul (Binary64.ofInt 2)).mul c981).trunc ∧
    convExact r = ((Binary64.ofInt (2 * r)).mul c981).trunc ∧
    convExact r = (((Binary64.ofInt (2 * r)).mul (c981.div f1000)).mul f1000).trunc

/-- R145: SRC_FLOAT in its operation order, with C981 the binary64 number nearest 9.81, equals EXACT at every raw count but
1650 and -1650; at 1650 its t3 is the binary64 number nearest 32372.999999999996. -/
def Obligations.SrcFloatDiffersAtTwoCounts : Prop :=
  c981 = { neg := false, man := 0x139eb851eb851f, exp := -49 } ∧ c981 = roundTiesToEven false 981 100 ∧
  (((Binary64.ofInt 3300).mul c981).div (Binary64.ofInt 1000)).mul (Binary64.ofInt 1000) =
    roundTiesToEven false 32372999999999996 1000000000000 ∧
  (∀ w : Word16, convWord .srcFloat w =
    ((((Binary64.ofInt (rawCount w * 2)).mul c981).div (Binary64.ofInt 1000)).mul (Binary64.ofInt 1000)).trunc) ∧
  (∀ r : Int, -2048 ≤ r → r ≤ 2047 → (convSrcFloat r = convExact r ↔ r ≠ 1650 ∧ r ≠ -1650)) ∧
  convSrcFloat 1650 = 32372 ∧ convExact 1650 = 32373 ∧ convSrcFloat (-1650) = -32372 ∧ convExact (-1650) = -32373

/-- The rounding of the binary64 model is roundTiesToEven to 53 bits (R145; PRESUMED, log 7). The exponent is the one at which
num / den has 53 bits before the point: between 2^52, included, and 2^53 units of the last place. The result is within half
such a unit of num / den, and even when it is exactly half a unit away. -/
def Obligations.RoundingIsTiesToEven : Prop :=
  ∀ (neg : Bool) (num den : Nat), 0 < num → 0 < den →
    let x := roundTiesToEven neg num den
    let n : Int := num * 2 ^ (-x.exp).toNat
    let d : Int := den * 2 ^ x.exp.toNat
    x.neg = neg ∧ 2 ^ 52 * d ≤ n ∧ n < 2 ^ 53 * d ∧ 2 ^ 52 ≤ x.man ∧ x.man ≤ 2 ^ 53 ∧
      2 * (n - x.man * d) ≤ d ∧ -d ≤ 2 * (n - x.man * d) ∧
      ((2 * (n - x.man * d) = d ∨ 2 * (n - x.man * d) = -d) → x.man % 2 = 0)

/-- R146: the widths of the intermediate values, and nothing is lost when the result is written to 32 bits. -/
def Obligations.ConversionNeverOverflows : Prop :=
  ∀ (m : Config.ConvMode) (w : Word16),
    (rawCount w).natAbs ≤ 2048 ∧ (milliG (rawCount w)).natAbs ≤ 4096 ∧
    (milliG (rawCount w) * 981).natAbs ≤ 4018176 ∧ 4018176 < 2 ^ 22 ∧
    (convWord m w).natAbs ≤ 40181 ∧ 40181 < 2 ^ 16 ∧ (BitVec.ofInt 32 (convWord m w)).toInt = convWord m w

/-- R147: the range of Conv in both modes, with its two ends. -/
def Obligations.ConversionRange : Prop :=
  ∀ m : Config.ConvMode, (∀ w : Word16, -40181 ≤ convWord m w ∧ convWord m w ≤ 40162) ∧
    convWord m 0x7FF0#16 = 40162 ∧ convWord m 0x8000#16 = -40181

/-- R148: sign symmetry and monotonicity in both modes; truncation is not floor. -/
def Obligations.ConversionSymmetricMonotone : Prop :=
  ∀ m : Config.ConvMode,
    (∀ r : Int, 0 ≤ r → r ≤ 2047 → convCount m (-r) = -convCount m r) ∧
    (∀ r r' : Int, -2048 ≤ r → r ≤ r' → r' ≤ 2047 → convCount m r ≤ convCount m r') ∧
    convCount m (-1) = -19 ∧ convCount m (-2048) = -40181

/-- R149: the words around zero. -/
def Obligations.ConversionNearZero : Prop :=
  ∀ (m : Config.ConvMode) (k : BitVec 4),
    rawCount (0x000#12 ++ k) = 0 ∧ convWord m (0x000#12 ++ k) = 0 ∧
    rawCount (0xFFF#12 ++ k) = -1 ∧ convWord m (0xFFF#12 ++ k) = -19 ∧
    rawCount (0x001#12 ++ k) = 1 ∧ convWord m (0x001#12 ++ k) = 19

/-! ### Frame -/

/-- R160: PACK writes the twelve payload bytes little-endian and nothing else; header and footer stay. -/
def Obligations.PackResult : Prop :=
  encode .pack = 0b1100#4 ∧
  ∀ s : State, ∃ m : Memory, exec .pack s = .next { s with frame := m, state := 0xD#4 } ∧
    frameRead { s with frame := m } 0 = 0xA0#8 ∧ frameRead { s with frame := m } 13 = 0xC0#8 ∧
    (s.frame.wf = true →
      ∀ i : Fin 4,
        frameRead { s with frame := m } (Fin.ofNat 14 (1 + i.val)) = s.ax.extractLsb' (8 * i.val) 8 ∧
        frameRead { s with frame := m } (Fin.ofNat 14 (5 + i.val)) = s.ay.extractLsb' (8 * i.val) 8 ∧
        frameRead { s with frame := m } (Fin.ofNat 14 (9 + i.val)) = s.az.extractLsb' (8 * i.val) 8)

/-- R161: the round trip, idempotence (two states with the same axis values) and invariance of header and footer. -/
def Obligations.PackProperties : Prop :=
  (∀ s t : State, s.frame.wf = true → exec .pack s = .next t →
    frameRead t 4 ++ frameRead t 3 ++ frameRead t 2 ++ frameRead t 1 = s.ax ∧
    frameRead t 8 ++ frameRead t 7 ++ frameRead t 6 ++ frameRead t 5 = s.ay ∧
    frameRead t 12 ++ frameRead t 11 ++ frameRead t 10 ++ frameRead t 9 = s.az) ∧
  (∀ s s' t t' : State, s.frame.wf = true → s'.frame.wf = true → s.ax = s'.ax → s.ay = s'.ay → s.az = s'.az →
    exec .pack s = .next t → exec .pack s' = .next t' → t.frame = t'.frame) ∧
  (∀ s : State, frameRead s 0 = 0xA0#8 ∧ frameRead s 13 = 0xC0#8)

/-- R29, R53: FRAME[0] and FRAME[13] discard writes; a write to another offset is read back there and nowhere else. -/
def Obligations.FrameWriteReadBack : Prop :=
  ∀ (s : State) (o p : Fin 14) (v : Byte), s.frame.wf = true →
    ((o = 0 ∨ o = 13) → frameWrite o v s = s) ∧
    (o ≠ 0 → o ≠ 13 → frameRead (frameWrite o v s) p = if p = o then v else frameRead s p)

/-- R162: EMIT appends the 14 bytes in offset order and goes to POLL. -/
def Obligations.EmitResult : Prop :=
  encode .emit = 0b1101#4 ∧
  ∀ s : State, exec .emit s = .next { s with
    out := s.out ++ (List.finRange 14).map (frameRead s)
    txIdx := 0#4
    state := 0x7#4 }

/-- R163: without a reset a step appends nothing or one whole frame, so OUT stays framed; only EMIT appends. -/
def Obligations.OutputStaysFramed : Prop :=
  ∀ s t : State, s.rstNow = none → step s = .next t → Framed s.out →
    Framed t.out ∧ (s.state ≠ encode .emit → t.out = s.out) ∧
    (s.state = encode .emit → t.out = s.out ++ (List.finRange 14).map (frameRead s))

/-- The whole acquisition cycle (R68, R82, R86, R120 to R163): a ready POLL and three good axis reads emit, in seven steps,
exactly the frame of the three converted words, and the block is back in POLL. -/
def Obligations.CycleEmitsConvertedFrame : Prop :=
  ∀ (s : State) (p x y z : Response) (rest : List (Option Response)),
    s.state = 0x7#4 → s.rstIn = [] → s.frame.wf = true →
    p.err = false → p.data.getLsbD 3 = true → x.err = false → y.err = false → z.err = false →
    s.replies = [some p, some x, some y, some z] ++ rest →
    ∃ t, run 7 s = .next t ∧ t.state = 0x7#4 ∧
      (traceRun 7 s).map TraceLine.op = cycleOps 1 true ∧
      t.out = s.out ++ frameOf (BitVec.ofInt 32 (convWord s.params.convMode x.data))
        (BitVec.ofInt 32 (convWord s.params.convMode y.data)) (BitVec.ofInt 32 (convWord s.params.convMode z.data))

/-! ### Status word, flags, reset, invariants -/

/-- R35: every field of SIF_STATUS at its bits, the port that carries it, its value after reset, and the legal values of its
two code fields in states that meet the invariant (which reset and every step keep). -/
def Obligations.StatusWordFields : Prop :=
  ∀ s : State,
    s.sifStatus.extractLsb' 0 4 = s.state ∧ s.sifStatus.extractLsb' 4 4 = s.lastErrState ∧
    s.sifStatus.getLsbD 8 = s.errGate ∧ s.sifStatus.getLsbD 9 = s.flags.acqErr ∧
    s.sifStatus.getLsbD 10 = s.flags.cfgErr ∧ s.sifStatus.getLsbD 11 = s.flags.idMismatch ∧
    s.sifStatus.getLsbD 12 = s.flags.c1Mismatch ∧ s.sifStatus.getLsbD 13 = s.flags.c4Mismatch ∧
    s.sifStatus.getLsbD 14 = s.flags.c1Written ∧ s.sifStatus.getLsbD 15 = s.flags.cfgDone ∧
    s.sifStatus.getLsbD 16 = s.flags.timeout ∧ s.sifStatus.getLsbD 17 = s.flags.illegalState ∧
    s.sifStatus.extractLsb' 18 14 = 0#14 ∧ State.reset.sifStatus = 0x000000F0#32 ∧
    (∀ rst, (ports rst s).sifStatus = s.sifStatus) ∧
    (Inv s → (s.sifStatus.extractLsb' 0 4).toNat ≤ 0xD ∧
      ((s.sifStatus.extractLsb' 4 4).toNat ≤ 0xA ∨ s.sifStatus.extractLsb' 4 4 = 0xF#4))

/-- No flag, and not LAST_ERR_STATE, feeds back into the FSM: changing them changes no other register, no trace and no next
state (R31, R33). -/
def Obligations.FlagsDoNotSteer : Prop :=
  ∀ (s t : State) (f : StatusFlags) (c : Code), step s = .next t →
    ∃ t', step { s with flags := f, lastErrState := c } = .next t' ∧
      { t' with flags := t.flags, lastErrState := t.lastErrState } = t

/-- R32: a sticky flag that is set stays set in every step without reset. -/
def Obligations.StickyFlagsStaySet : Prop :=
  ∀ s t : State, s.rstNow = none → step s = .next t →
    (s.flags.cfgErr = true → t.flags.cfgErr = true) ∧ (s.flags.acqErr = true → t.flags.acqErr = true) ∧
    (s.flags.timeout = true → t.flags.timeout = true) ∧ (s.flags.illegalState = true → t.flags.illegalState = true)

/-- R202: the reset values of all state. -/
def Obligations.ResetValues : Prop :=
  let s := State.reset
  s.state = 0x0#4 ∧ s.idVal = 0x00#8 ∧ s.c1Val = 0x00#8 ∧ s.c4Val = 0x00#8 ∧ s.stVal = 0x00#8 ∧
  s.xl = 0x00#8 ∧ s.xh = 0x00#8 ∧ s.yl = 0x00#8 ∧ s.yh = 0x00#8 ∧ s.zl = 0x00#8 ∧ s.zh = 0x00#8 ∧
  s.errGate = false ∧ s.ax = 0x00000000#32 ∧ s.ay = 0x00000000#32 ∧ s.az = 0x00000000#32 ∧
  frameRead s 0 = 0xA0#8 ∧ (∀ off : Fin 14, 1 ≤ off.val → off.val ≤ 12 → frameRead s off = 0x00#8) ∧
  frameRead s 13 = 0xC0#8 ∧
  s.flags.cfgErr = false ∧ s.flags.acqErr = false ∧ s.flags.timeout = false ∧ s.flags.illegalState = false ∧
  s.flags.idMismatch = false ∧ s.flags.c1Mismatch = false ∧ s.flags.c4Mismatch = false ∧
  s.flags.c1Written = false ∧ s.flags.cfgDone = false ∧
  s.lastErrState = 0xF#4 ∧ s.pollCnt = 0#32 ∧ s.txnPending = false ∧ s.txIdx = 0#4 ∧
  s.sifStatus = 0x000000F0#32 ∧ s.reqTrace = [] ∧ s.out = []

/-- R200 at the cycle level: a cycle with `rst` = 1 gives every register its reset value in any state, with both valid signals
low; the next operation is ID_RD. -/
def Obligations.ResetCycleClearsRegisters : Prop :=
  ∀ (p : PortIn) (s : State), p.rst = true →
    SameRegisters (cycle p s) State.reset ∧ (cycle p s).params = s.params ∧
    (ports p.rst s).reqValid = false ∧ (ports p.rst s).txValid = false ∧ decode (cycle p s).state = .ok .idRd

/-- R201 at the operation level: `rst` asserted after `k` cycles of an operation gives what those cycles and a reset cycle give:
the registers reset, the abandoned request in REQ, the frame prefix in OUT. How the step is told is the model's (log 3). -/
def Obligations.ResetStepMatchesCycles : Prop :=
  ∀ (s : State) (k : Nat), s.rstNow = some k → s.txIdx = 0#4 →
    ((k = 0 ∧ s.state ≠ encode .emit) ∨ s.state.toNat ≤ 0xA ∨ (s.state = encode .emit ∧ k ≤ 13)) →
    step s = .next (cycles (List.replicate k quietIn ++ [resetIn]) { s with rstIn := s.rstIn.tail }) ∧
    (s.state = encode .emit → k ≤ 13 → ∀ t, step s = .next t →
      t.out = s.out ++ ((List.finRange 14).map (frameRead s)).take k)

/-- The invariant holds after every reset, for all parameters, and reset is an operation boundary (R206, R37). -/
def Obligations.InvariantHoldsAtReset : Prop :=
  ∀ p : Config.Params, Inv (State.resetWith p) ∧ AtBoundary (State.resetWith p)

/-- Every step keeps the invariant, resets included (R206, R28, R35, R180), and leads from an operation boundary to one: at
operation level a step always starts with TXN_PENDING = 0 and TX_IDX = 0 (R37), an unanswered operation included. -/
def Obligations.StepKeepsInvariant : Prop :=
  ∀ s t : State, step s = .next t → (Inv s → Inv t) ∧ (AtBoundary s → AtBoundary t)

/-- Every clock cycle keeps the invariant, whatever the input ports carry (R206, R37). -/
def Obligations.CycleKeepsInvariant : Prop := ∀ (p : PortIn) (s : State), Inv s → Inv (cycle p s)

/-! ### Cycle level -/

/-- A transport operation at the cycle level (R78, R217): a first cycle that ignores the response strobe, any number of waiting
cycles and the answering cycle give what the operation gives with that answer; from the first cycle on until then the request
is driven and stable. That TXN_PENDING = 0 marks the first cycle is read from R78 (DEDUCED, log 15). -/
def Obligations.HandshakeRefinesOperation : Prop :=
  ∀ (s : State) (i : Instr) (d : Desc) (first : PortIn) (waits : List PortIn) (r : Response),
    decode s.state = .ok i → descOf i = some d → s.txnPending = false →
    first.rst = false → (∀ p ∈ waits, p.rst = false ∧ p.rspValid = false) →
    exec i { s with replies := some r :: s.replies } = .next (cycles (first :: waits ++ [answerIn r]) s) ∧
    cycles (first :: waits) s = { s with txnPending := true } ∧
    (ports false s).reqValid = true ∧ (ports false s).reqDesc = some (encodeDesc d) ∧
    (ports false (cycles (first :: waits) s)).reqValid = true ∧
    (ports false (cycles (first :: waits) s)).reqDesc = some (encodeDesc d)

/-- EMIT at the cycle level (R80, R81): in cycle k the sink port carries FRAME[k], and 14 cycles give what the operation
gives. -/
def Obligations.EmitCyclesRefineOperation : Prop :=
  ∀ (s : State) (ps : List PortIn), s.state = encode .emit → s.txIdx = 0#4 → (∀ p ∈ ps, p.rst = false) →
    (∀ k : Fin 14, ps.length = k.val →
      (ports false (cycles ps s)).txValid = true ∧ (ports false (cycles ps s)).txData = frameRead s k) ∧
    (ps.length = 14 → exec .emit s = .next (cycles ps s))

/-- The single-cycle operations and the recovery step (R205, R217), and the idle sink port (R80). -/
def Obligations.SingleCycleOperations : Prop :=
  ∀ (p : PortIn) (s : State), p.rst = false →
    (s.state = encode .conv → exec .conv s = .next (cycle p s)) ∧
    (s.state = encode .pack → exec .pack s = .next (cycle p s)) ∧
    (0xD < s.state.toNat → cycle p s = { s with flags := { s.flags with illegalState := true }, state := 0x7#4 }) ∧
    (s.state ≠ encode .emit → (ports false s).txValid = false ∧ (ports false s).txData = 0x00#8) ∧
    (0xA < s.state.toNat → (ports false s).reqValid = false)
end

