-- ==== Sys2Proof/Laws/Decode.lean ====
section
/-!
SUPPORT. The codes of the operations as numerals, and what the decoder gives for each.
-/
namespace Sys2Proof

@[simp] theorem encode_idRd : encode .idRd = 0x0#4 := rfl
@[simp] theorem encode_c1Rd : encode .c1Rd = 0x1#4 := rfl
@[simp] theorem encode_c1Wr : encode .c1Wr = 0x2#4 := rfl
@[simp] theorem encode_c1Vr : encode .c1Vr = 0x3#4 := rfl
@[simp] theorem encode_c4Rd : encode .c4Rd = 0x4#4 := rfl
@[simp] theorem encode_c4Wr : encode .c4Wr = 0x5#4 := rfl
@[simp] theorem encode_c4Vr : encode .c4Vr = 0x6#4 := rfl
@[simp] theorem encode_poll : encode .poll = 0x7#4 := rfl
@[simp] theorem encode_rdX : encode .rdX = 0x8#4 := rfl
@[simp] theorem encode_rdY : encode .rdY = 0x9#4 := rfl
@[simp] theorem encode_rdZ : encode .rdZ = 0xA#4 := rfl
@[simp] theorem encode_conv : encode .conv = 0xB#4 := rfl
@[simp] theorem encode_pack : encode .pack = 0xC#4 := rfl
@[simp] theorem encode_emit : encode .emit = 0xD#4 := rfl

@[simp] theorem decode_0 : decode 0x0#4 = .ok .idRd := rfl
@[simp] theorem decode_1 : decode 0x1#4 = .ok .c1Rd := rfl
@[simp] theorem decode_2 : decode 0x2#4 = .ok .c1Wr := rfl
@[simp] theorem decode_3 : decode 0x3#4 = .ok .c1Vr := rfl
@[simp] theorem decode_4 : decode 0x4#4 = .ok .c4Rd := rfl
@[simp] theorem decode_5 : decode 0x5#4 = .ok .c4Wr := rfl
@[simp] theorem decode_6 : decode 0x6#4 = .ok .c4Vr := rfl
@[simp] theorem decode_7 : decode 0x7#4 = .ok .poll := rfl
@[simp] theorem decode_8 : decode 0x8#4 = .ok .rdX := rfl
@[simp] theorem decode_9 : decode 0x9#4 = .ok .rdY := rfl
@[simp] theorem decode_A : decode 0xA#4 = .ok .rdZ := rfl
@[simp] theorem decode_B : decode 0xB#4 = .ok .conv := rfl
@[simp] theorem decode_C : decode 0xC#4 = .ok .pack := rfl
@[simp] theorem decode_D : decode 0xD#4 = .ok .emit := rfl
@[simp] theorem decode_E : decode 0xE#4 = .error (.unassigned 0xE#4) := rfl
@[simp] theorem decode_F : decode 0xF#4 = .error (.unassigned 0xF#4) := rfl

end Sys2Proof
end

