-- ==== Sys2Proof/Laws/State.lean ====
section
/-!
SUPPORT. What each shared update does to each field of State: one lemma per field per update, so that no later proof unfolds
a record update.
-/
namespace Sys2Proof.Machine

variable (s : State)

/-! ### State.popRst -/

@[simp] theorem State.popRst_state : s.popRst.state = s.state := rfl
@[simp] theorem State.popRst_idVal : s.popRst.idVal = s.idVal := rfl
@[simp] theorem State.popRst_c1Val : s.popRst.c1Val = s.c1Val := rfl
@[simp] theorem State.popRst_c4Val : s.popRst.c4Val = s.c4Val := rfl
@[simp] theorem State.popRst_stVal : s.popRst.stVal = s.stVal := rfl
@[simp] theorem State.popRst_xl : s.popRst.xl = s.xl := rfl
@[simp] theorem State.popRst_xh : s.popRst.xh = s.xh := rfl
@[simp] theorem State.popRst_yl : s.popRst.yl = s.yl := rfl
@[simp] theorem State.popRst_yh : s.popRst.yh = s.yh := rfl
@[simp] theorem State.popRst_zl : s.popRst.zl = s.zl := rfl
@[simp] theorem State.popRst_zh : s.popRst.zh = s.zh := rfl
@[simp] theorem State.popRst_errGate : s.popRst.errGate = s.errGate := rfl
@[simp] theorem State.popRst_ax : s.popRst.ax = s.ax := rfl
@[simp] theorem State.popRst_ay : s.popRst.ay = s.ay := rfl
@[simp] theorem State.popRst_az : s.popRst.az = s.az := rfl
@[simp] theorem State.popRst_frame : s.popRst.frame = s.frame := rfl
@[simp] theorem State.popRst_flags : s.popRst.flags = s.flags := rfl
@[simp] theorem State.popRst_lastErrState : s.popRst.lastErrState = s.lastErrState := rfl
@[simp] theorem State.popRst_pollCnt : s.popRst.pollCnt = s.pollCnt := rfl
@[simp] theorem State.popRst_txnPending : s.popRst.txnPending = s.txnPending := rfl
@[simp] theorem State.popRst_txIdx : s.popRst.txIdx = s.txIdx := rfl
@[simp] theorem State.popRst_req : s.popRst.req = s.req := rfl
@[simp] theorem State.popRst_out : s.popRst.out = s.out := rfl
@[simp] theorem State.popRst_params : s.popRst.params = s.params := rfl
@[simp] theorem State.popRst_replies : s.popRst.replies = s.replies := rfl
@[simp] theorem State.popRst_drawIdx : s.popRst.drawIdx = s.drawIdx := rfl
@[simp] theorem State.popRst_rstIn : s.popRst.rstIn = s.rstIn.tail := rfl

/-! ### State.holdRequest -/

@[simp] theorem State.holdRequest_state : s.holdRequest.state = s.state := rfl
@[simp] theorem State.holdRequest_idVal : s.holdRequest.idVal = s.idVal := rfl
@[simp] theorem State.holdRequest_c1Val : s.holdRequest.c1Val = s.c1Val := rfl
@[simp] theorem State.holdRequest_c4Val : s.holdRequest.c4Val = s.c4Val := rfl
@[simp] theorem State.holdRequest_stVal : s.holdRequest.stVal = s.stVal := rfl
@[simp] theorem State.holdRequest_xl : s.holdRequest.xl = s.xl := rfl
@[simp] theorem State.holdRequest_xh : s.holdRequest.xh = s.xh := rfl
@[simp] theorem State.holdRequest_yl : s.holdRequest.yl = s.yl := rfl
@[simp] theorem State.holdRequest_yh : s.holdRequest.yh = s.yh := rfl
@[simp] theorem State.holdRequest_zl : s.holdRequest.zl = s.zl := rfl
@[simp] theorem State.holdRequest_zh : s.holdRequest.zh = s.zh := rfl
@[simp] theorem State.holdRequest_errGate : s.holdRequest.errGate = s.errGate := rfl
@[simp] theorem State.holdRequest_ax : s.holdRequest.ax = s.ax := rfl
@[simp] theorem State.holdRequest_ay : s.holdRequest.ay = s.ay := rfl
@[simp] theorem State.holdRequest_az : s.holdRequest.az = s.az := rfl
@[simp] theorem State.holdRequest_frame : s.holdRequest.frame = s.frame := rfl
@[simp] theorem State.holdRequest_flags : s.holdRequest.flags = s.flags := rfl
@[simp] theorem State.holdRequest_lastErrState : s.holdRequest.lastErrState = s.lastErrState := rfl
@[simp] theorem State.holdRequest_pollCnt : s.holdRequest.pollCnt = s.pollCnt := rfl
@[simp] theorem State.holdRequest_txnPending : s.holdRequest.txnPending = true := rfl
@[simp] theorem State.holdRequest_txIdx : s.holdRequest.txIdx = s.txIdx := rfl
@[simp] theorem State.holdRequest_req : s.holdRequest.req = s.req := rfl
@[simp] theorem State.holdRequest_out : s.holdRequest.out = s.out := rfl
@[simp] theorem State.holdRequest_params : s.holdRequest.params = s.params := rfl
@[simp] theorem State.holdRequest_replies : s.holdRequest.replies = s.replies := rfl
@[simp] theorem State.holdRequest_drawIdx : s.holdRequest.drawIdx = s.drawIdx := rfl
@[simp] theorem State.holdRequest_rstIn : s.holdRequest.rstIn = s.rstIn := rfl

/-! ### State.logTxn -/

@[simp] theorem State.logTxn_state (d : Desc) (r : Response) : (s.logTxn d r).state = s.state := rfl
@[simp] theorem State.logTxn_idVal (d : Desc) (r : Response) : (s.logTxn d r).idVal = s.idVal := rfl
@[simp] theorem State.logTxn_c1Val (d : Desc) (r : Response) : (s.logTxn d r).c1Val = s.c1Val := rfl
@[simp] theorem State.logTxn_c4Val (d : Desc) (r : Response) : (s.logTxn d r).c4Val = s.c4Val := rfl
@[simp] theorem State.logTxn_stVal (d : Desc) (r : Response) : (s.logTxn d r).stVal = s.stVal := rfl
@[simp] theorem State.logTxn_xl (d : Desc) (r : Response) : (s.logTxn d r).xl = s.xl := rfl
@[simp] theorem State.logTxn_xh (d : Desc) (r : Response) : (s.logTxn d r).xh = s.xh := rfl
@[simp] theorem State.logTxn_yl (d : Desc) (r : Response) : (s.logTxn d r).yl = s.yl := rfl
@[simp] theorem State.logTxn_yh (d : Desc) (r : Response) : (s.logTxn d r).yh = s.yh := rfl
@[simp] theorem State.logTxn_zl (d : Desc) (r : Response) : (s.logTxn d r).zl = s.zl := rfl
@[simp] theorem State.logTxn_zh (d : Desc) (r : Response) : (s.logTxn d r).zh = s.zh := rfl
@[simp] theorem State.logTxn_errGate (d : Desc) (r : Response) : (s.logTxn d r).errGate = s.errGate := rfl
@[simp] theorem State.logTxn_ax (d : Desc) (r : Response) : (s.logTxn d r).ax = s.ax := rfl
@[simp] theorem State.logTxn_ay (d : Desc) (r : Response) : (s.logTxn d r).ay = s.ay := rfl
@[simp] theorem State.logTxn_az (d : Desc) (r : Response) : (s.logTxn d r).az = s.az := rfl
@[simp] theorem State.logTxn_frame (d : Desc) (r : Response) : (s.logTxn d r).frame = s.frame := rfl
@[simp] theorem State.logTxn_flags (d : Desc) (r : Response) : (s.logTxn d r).flags = s.flags := rfl
@[simp] theorem State.logTxn_lastErrState (d : Desc) (r : Response) : (s.logTxn d r).lastErrState = s.lastErrState := rfl
@[simp] theorem State.logTxn_pollCnt (d : Desc) (r : Response) : (s.logTxn d r).pollCnt = s.pollCnt := rfl
@[simp] theorem State.logTxn_txnPending (d : Desc) (r : Response) : (s.logTxn d r).txnPending = false := rfl
@[simp] theorem State.logTxn_txIdx (d : Desc) (r : Response) : (s.logTxn d r).txIdx = s.txIdx := rfl
@[simp] theorem State.logTxn_req (d : Desc) (r : Response) : (s.logTxn d r).req = s.req ++ [{ desc := encodeDesc d, rsp := some r }] := rfl
@[simp] theorem State.logTxn_out (d : Desc) (r : Response) : (s.logTxn d r).out = s.out := rfl
@[simp] theorem State.logTxn_params (d : Desc) (r : Response) : (s.logTxn d r).params = s.params := rfl
@[simp] theorem State.logTxn_replies (d : Desc) (r : Response) : (s.logTxn d r).replies = s.replies := rfl
@[simp] theorem State.logTxn_drawIdx (d : Desc) (r : Response) : (s.logTxn d r).drawIdx = s.drawIdx := rfl
@[simp] theorem State.logTxn_rstIn (d : Desc) (r : Response) : (s.logTxn d r).rstIn = s.rstIn := rfl

/-! ### reportError -/

@[simp] theorem reportError_state (c : Code) : (reportError c s).state = s.state := rfl
@[simp] theorem reportError_idVal (c : Code) : (reportError c s).idVal = s.idVal := rfl
@[simp] theorem reportError_c1Val (c : Code) : (reportError c s).c1Val = s.c1Val := rfl
@[simp] theorem reportError_c4Val (c : Code) : (reportError c s).c4Val = s.c4Val := rfl
@[simp] theorem reportError_stVal (c : Code) : (reportError c s).stVal = s.stVal := rfl
@[simp] theorem reportError_xl (c : Code) : (reportError c s).xl = s.xl := rfl
@[simp] theorem reportError_xh (c : Code) : (reportError c s).xh = s.xh := rfl
@[simp] theorem reportError_yl (c : Code) : (reportError c s).yl = s.yl := rfl
@[simp] theorem reportError_yh (c : Code) : (reportError c s).yh = s.yh := rfl
@[simp] theorem reportError_zl (c : Code) : (reportError c s).zl = s.zl := rfl
@[simp] theorem reportError_zh (c : Code) : (reportError c s).zh = s.zh := rfl
@[simp] theorem reportError_errGate (c : Code) : (reportError c s).errGate = s.errGate := rfl
@[simp] theorem reportError_ax (c : Code) : (reportError c s).ax = s.ax := rfl
@[simp] theorem reportError_ay (c : Code) : (reportError c s).ay = s.ay := rfl
@[simp] theorem reportError_az (c : Code) : (reportError c s).az = s.az := rfl
@[simp] theorem reportError_frame (c : Code) : (reportError c s).frame = s.frame := rfl
@[simp] theorem reportError_flags (c : Code) : (reportError c s).flags = { s.flags with
      cfgErr := s.flags.cfgErr || decide (c.toNat ≤ 0x6)
      acqErr := s.flags.acqErr || decide (0x7 ≤ c.toNat ∧ c.toNat ≤ 0xA) } := rfl
@[simp] theorem reportError_lastErrState (c : Code) : (reportError c s).lastErrState = c := rfl
@[simp] theorem reportError_pollCnt (c : Code) : (reportError c s).pollCnt = s.pollCnt := rfl
@[simp] theorem reportError_txnPending (c : Code) : (reportError c s).txnPending = s.txnPending := rfl
@[simp] theorem reportError_txIdx (c : Code) : (reportError c s).txIdx = s.txIdx := rfl
@[simp] theorem reportError_req (c : Code) : (reportError c s).req = s.req := rfl
@[simp] theorem reportError_out (c : Code) : (reportError c s).out = s.out := rfl
@[simp] theorem reportError_params (c : Code) : (reportError c s).params = s.params := rfl
@[simp] theorem reportError_replies (c : Code) : (reportError c s).replies = s.replies := rfl
@[simp] theorem reportError_drawIdx (c : Code) : (reportError c s).drawIdx = s.drawIdx := rfl
@[simp] theorem reportError_rstIn (c : Code) : (reportError c s).rstIn = s.rstIn := rfl

/-! ### emitBytes -/

@[simp] theorem emitBytes_state (bs : List Byte) : (emitBytes bs s).state = s.state := rfl
@[simp] theorem emitBytes_idVal (bs : List Byte) : (emitBytes bs s).idVal = s.idVal := rfl
@[simp] theorem emitBytes_c1Val (bs : List Byte) : (emitBytes bs s).c1Val = s.c1Val := rfl
@[simp] theorem emitBytes_c4Val (bs : List Byte) : (emitBytes bs s).c4Val = s.c4Val := rfl
@[simp] theorem emitBytes_stVal (bs : List Byte) : (emitBytes bs s).stVal = s.stVal := rfl
@[simp] theorem emitBytes_xl (bs : List Byte) : (emitBytes bs s).xl = s.xl := rfl
@[simp] theorem emitBytes_xh (bs : List Byte) : (emitBytes bs s).xh = s.xh := rfl
@[simp] theorem emitBytes_yl (bs : List Byte) : (emitBytes bs s).yl = s.yl := rfl
@[simp] theorem emitBytes_yh (bs : List Byte) : (emitBytes bs s).yh = s.yh := rfl
@[simp] theorem emitBytes_zl (bs : List Byte) : (emitBytes bs s).zl = s.zl := rfl
@[simp] theorem emitBytes_zh (bs : List Byte) : (emitBytes bs s).zh = s.zh := rfl
@[simp] theorem emitBytes_errGate (bs : List Byte) : (emitBytes bs s).errGate = s.errGate := rfl
@[simp] theorem emitBytes_ax (bs : List Byte) : (emitBytes bs s).ax = s.ax := rfl
@[simp] theorem emitBytes_ay (bs : List Byte) : (emitBytes bs s).ay = s.ay := rfl
@[simp] theorem emitBytes_az (bs : List Byte) : (emitBytes bs s).az = s.az := rfl
@[simp] theorem emitBytes_frame (bs : List Byte) : (emitBytes bs s).frame = s.frame := rfl
@[simp] theorem emitBytes_flags (bs : List Byte) : (emitBytes bs s).flags = s.flags := rfl
@[simp] theorem emitBytes_lastErrState (bs : List Byte) : (emitBytes bs s).lastErrState = s.lastErrState := rfl
@[simp] theorem emitBytes_pollCnt (bs : List Byte) : (emitBytes bs s).pollCnt = s.pollCnt := rfl
@[simp] theorem emitBytes_txnPending (bs : List Byte) : (emitBytes bs s).txnPending = s.txnPending := rfl
@[simp] theorem emitBytes_txIdx (bs : List Byte) : (emitBytes bs s).txIdx = s.txIdx := rfl
@[simp] theorem emitBytes_req (bs : List Byte) : (emitBytes bs s).req = s.req := rfl
@[simp] theorem emitBytes_out (bs : List Byte) : (emitBytes bs s).out = s.out ++ bs := rfl
@[simp] theorem emitBytes_params (bs : List Byte) : (emitBytes bs s).params = s.params := rfl
@[simp] theorem emitBytes_replies (bs : List Byte) : (emitBytes bs s).replies = s.replies := rfl
@[simp] theorem emitBytes_drawIdx (bs : List Byte) : (emitBytes bs s).drawIdx = s.drawIdx := rfl
@[simp] theorem emitBytes_rstIn (bs : List Byte) : (emitBytes bs s).rstIn = s.rstIn := rfl

/-! ### recover -/

@[simp] theorem recover_state : (recover s).state = 0x7#4 := rfl
@[simp] theorem recover_idVal : (recover s).idVal = s.idVal := rfl
@[simp] theorem recover_c1Val : (recover s).c1Val = s.c1Val := rfl
@[simp] theorem recover_c4Val : (recover s).c4Val = s.c4Val := rfl
@[simp] theorem recover_stVal : (recover s).stVal = s.stVal := rfl
@[simp] theorem recover_xl : (recover s).xl = s.xl := rfl
@[simp] theorem recover_xh : (recover s).xh = s.xh := rfl
@[simp] theorem recover_yl : (recover s).yl = s.yl := rfl
@[simp] theorem recover_yh : (recover s).yh = s.yh := rfl
@[simp] theorem recover_zl : (recover s).zl = s.zl := rfl
@[simp] theorem recover_zh : (recover s).zh = s.zh := rfl
@[simp] theorem recover_errGate : (recover s).errGate = s.errGate := rfl
@[simp] theorem recover_ax : (recover s).ax = s.ax := rfl
@[simp] theorem recover_ay : (recover s).ay = s.ay := rfl
@[simp] theorem recover_az : (recover s).az = s.az := rfl
@[simp] theorem recover_frame : (recover s).frame = s.frame := rfl
@[simp] theorem recover_flags : (recover s).flags = { s.flags with illegalState := true } := rfl
@[simp] theorem recover_lastErrState : (recover s).lastErrState = s.lastErrState := rfl
@[simp] theorem recover_pollCnt : (recover s).pollCnt = s.pollCnt := rfl
@[simp] theorem recover_txnPending : (recover s).txnPending = s.txnPending := rfl
@[simp] theorem recover_txIdx : (recover s).txIdx = s.txIdx := rfl
@[simp] theorem recover_req : (recover s).req = s.req := rfl
@[simp] theorem recover_out : (recover s).out = s.out := rfl
@[simp] theorem recover_params : (recover s).params = s.params := rfl
@[simp] theorem recover_replies : (recover s).replies = s.replies := rfl
@[simp] theorem recover_drawIdx : (recover s).drawIdx = s.drawIdx := rfl
@[simp] theorem recover_rstIn : (recover s).rstIn = s.rstIn := rfl

/-! ### State.popReply -/

@[simp] theorem State.popReply_state : s.popReply.state = s.state := by
  unfold State.popReply; split <;> simp_all
@[simp] theorem State.popReply_idVal : s.popReply.idVal = s.idVal := by
  unfold State.popReply; split <;> simp_all
@[simp] theorem State.popReply_c1Val : s.popReply.c1Val = s.c1Val := by
  unfold State.popReply; split <;> simp_all
@[simp] theorem State.popReply_c4Val : s.popReply.c4Val = s.c4Val := by
  unfold State.popReply; split <;> simp_all
@[simp] theorem State.popReply_stVal : s.popReply.stVal = s.stVal := by
  unfold State.popReply; split <;> simp_all
@[simp] theorem State.popReply_xl : s.popReply.xl = s.xl := by
  unfold State.popReply; split <;> simp_all
@[simp] theorem State.popReply_xh : s.popReply.xh = s.xh := by
  unfold State.popReply; split <;> simp_all
@[simp] theorem State.popReply_yl : s.popReply.yl = s.yl := by
  unfold State.popReply; split <;> simp_all
@[simp] theorem State.popReply_yh : s.popReply.yh = s.yh := by
  unfold State.popReply; split <;> simp_all
@[simp] theorem State.popReply_zl : s.popReply.zl = s.zl := by
  unfold State.popReply; split <;> simp_all
@[simp] theorem State.popReply_zh : s.popReply.zh = s.zh := by
  unfold State.popReply; split <;> simp_all
@[simp] theorem State.popReply_errGate : s.popReply.errGate = s.errGate := by
  unfold State.popReply; split <;> simp_all
@[simp] theorem State.popReply_ax : s.popReply.ax = s.ax := by
  unfold State.popReply; split <;> simp_all
@[simp] theorem State.popReply_ay : s.popReply.ay = s.ay := by
  unfold State.popReply; split <;> simp_all
@[simp] theorem State.popReply_az : s.popReply.az = s.az := by
  unfold State.popReply; split <;> simp_all
@[simp] theorem State.popReply_frame : s.popReply.frame = s.frame := by
  unfold State.popReply; split <;> simp_all
@[simp] theorem State.popReply_flags : s.popReply.flags = s.flags := by
  unfold State.popReply; split <;> simp_all
@[simp] theorem State.popReply_lastErrState : s.popReply.lastErrState = s.lastErrState := by
  unfold State.popReply; split <;> simp_all
@[simp] theorem State.popReply_pollCnt : s.popReply.pollCnt = s.pollCnt := by
  unfold State.popReply; split <;> simp_all
@[simp] theorem State.popReply_txnPending : s.popReply.txnPending = s.txnPending := by
  unfold State.popReply; split <;> simp_all
@[simp] theorem State.popReply_txIdx : s.popReply.txIdx = s.txIdx := by
  unfold State.popReply; split <;> simp_all
@[simp] theorem State.popReply_req : s.popReply.req = s.req := by
  unfold State.popReply; split <;> simp_all
@[simp] theorem State.popReply_out : s.popReply.out = s.out := by
  unfold State.popReply; split <;> simp_all
@[simp] theorem State.popReply_params : s.popReply.params = s.params := by
  unfold State.popReply; split <;> simp_all
@[simp] theorem State.popReply_replies : s.popReply.replies = s.replies.tail := by
  unfold State.popReply; split <;> simp_all
@[simp] theorem State.popReply_rstIn : s.popReply.rstIn = s.rstIn := by
  unfold State.popReply; split <;> simp_all

/-! ### frameWrite -/

@[simp] theorem frameWrite_state (o : Fin 14) (v : Byte) : (frameWrite o v s).state = s.state := by
  unfold frameWrite; split <;> simp_all
@[simp] theorem frameWrite_idVal (o : Fin 14) (v : Byte) : (frameWrite o v s).idVal = s.idVal := by
  unfold frameWrite; split <;> simp_all
@[simp] theorem frameWrite_c1Val (o : Fin 14) (v : Byte) : (frameWrite o v s).c1Val = s.c1Val := by
  unfold frameWrite; split <;> simp_all
@[simp] theorem frameWrite_c4Val (o : Fin 14) (v : Byte) : (frameWrite o v s).c4Val = s.c4Val := by
  unfold frameWrite; split <;> simp_all
@[simp] theorem frameWrite_stVal (o : Fin 14) (v : Byte) : (frameWrite o v s).stVal = s.stVal := by
  unfold frameWrite; split <;> simp_all
@[simp] theorem frameWrite_xl (o : Fin 14) (v : Byte) : (frameWrite o v s).xl = s.xl := by
  unfold frameWrite; split <;> simp_all
@[simp] theorem frameWrite_xh (o : Fin 14) (v : Byte) : (frameWrite o v s).xh = s.xh := by
  unfold frameWrite; split <;> simp_all
@[simp] theorem frameWrite_yl (o : Fin 14) (v : Byte) : (frameWrite o v s).yl = s.yl := by
  unfold frameWrite; split <;> simp_all
@[simp] theorem frameWrite_yh (o : Fin 14) (v : Byte) : (frameWrite o v s).yh = s.yh := by
  unfold frameWrite; split <;> simp_all
@[simp] theorem frameWrite_zl (o : Fin 14) (v : Byte) : (frameWrite o v s).zl = s.zl := by
  unfold frameWrite; split <;> simp_all
@[simp] theorem frameWrite_zh (o : Fin 14) (v : Byte) : (frameWrite o v s).zh = s.zh := by
  unfold frameWrite; split <;> simp_all
@[simp] theorem frameWrite_errGate (o : Fin 14) (v : Byte) : (frameWrite o v s).errGate = s.errGate := by
  unfold frameWrite; split <;> simp_all
@[simp] theorem frameWrite_ax (o : Fin 14) (v : Byte) : (frameWrite o v s).ax = s.ax := by
  unfold frameWrite; split <;> simp_all
@[simp] theorem frameWrite_ay (o : Fin 14) (v : Byte) : (frameWrite o v s).ay = s.ay := by
  unfold frameWrite; split <;> simp_all
@[simp] theorem frameWrite_az (o : Fin 14) (v : Byte) : (frameWrite o v s).az = s.az := by
  unfold frameWrite; split <;> simp_all
@[simp] theorem frameWrite_frame (o : Fin 14) (v : Byte) : (frameWrite o v s).frame = if o = 0 ∨ o = 13 then s.frame else Memory.set o.val v s.frame := by
  unfold frameWrite; split <;> simp_all
@[simp] theorem frameWrite_flags (o : Fin 14) (v : Byte) : (frameWrite o v s).flags = s.flags := by
  unfold frameWrite; split <;> simp_all
@[simp] theorem frameWrite_lastErrState (o : Fin 14) (v : Byte) : (frameWrite o v s).lastErrState = s.lastErrState := by
  unfold frameWrite; split <;> simp_all
@[simp] theorem frameWrite_pollCnt (o : Fin 14) (v : Byte) : (frameWrite o v s).pollCnt = s.pollCnt := by
  unfold frameWrite; split <;> simp_all
@[simp] theorem frameWrite_txnPending (o : Fin 14) (v : Byte) : (frameWrite o v s).txnPending = s.txnPending := by
  unfold frameWrite; split <;> simp_all
@[simp] theorem frameWrite_txIdx (o : Fin 14) (v : Byte) : (frameWrite o v s).txIdx = s.txIdx := by
  unfold frameWrite; split <;> simp_all
@[simp] theorem frameWrite_req (o : Fin 14) (v : Byte) : (frameWrite o v s).req = s.req := by
  unfold frameWrite; split <;> simp_all
@[simp] theorem frameWrite_out (o : Fin 14) (v : Byte) : (frameWrite o v s).out = s.out := by
  unfold frameWrite; split <;> simp_all
@[simp] theorem frameWrite_params (o : Fin 14) (v : Byte) : (frameWrite o v s).params = s.params := by
  unfold frameWrite; split <;> simp_all
@[simp] theorem frameWrite_replies (o : Fin 14) (v : Byte) : (frameWrite o v s).replies = s.replies := by
  unfold frameWrite; split <;> simp_all
@[simp] theorem frameWrite_drawIdx (o : Fin 14) (v : Byte) : (frameWrite o v s).drawIdx = s.drawIdx := by
  unfold frameWrite; split <;> simp_all
@[simp] theorem frameWrite_rstIn (o : Fin 14) (v : Byte) : (frameWrite o v s).rstIn = s.rstIn := by
  unfold frameWrite; split <;> simp_all

/-! ### pollCount -/

@[simp] theorem pollCount_state : (pollCount s).state = s.state := by
  unfold pollCount; split <;> rfl
@[simp] theorem pollCount_idVal : (pollCount s).idVal = s.idVal := by
  unfold pollCount; split <;> rfl
@[simp] theorem pollCount_c1Val : (pollCount s).c1Val = s.c1Val := by
  unfold pollCount; split <;> rfl
@[simp] theorem pollCount_c4Val : (pollCount s).c4Val = s.c4Val := by
  unfold pollCount; split <;> rfl
@[simp] theorem pollCount_stVal : (pollCount s).stVal = s.stVal := by
  unfold pollCount; split <;> rfl
@[simp] theorem pollCount_xl : (pollCount s).xl = s.xl := by
  unfold pollCount; split <;> rfl
@[simp] theorem pollCount_xh : (pollCount s).xh = s.xh := by
  unfold pollCount; split <;> rfl
@[simp] theorem pollCount_yl : (pollCount s).yl = s.yl := by
  unfold pollCount; split <;> rfl
@[simp] theorem pollCount_yh : (pollCount s).yh = s.yh := by
  unfold pollCount; split <;> rfl
@[simp] theorem pollCount_zl : (pollCount s).zl = s.zl := by
  unfold pollCount; split <;> rfl
@[simp] theorem pollCount_zh : (pollCount s).zh = s.zh := by
  unfold pollCount; split <;> rfl
@[simp] theorem pollCount_errGate : (pollCount s).errGate = s.errGate := by
  unfold pollCount; split <;> rfl
@[simp] theorem pollCount_ax : (pollCount s).ax = s.ax := by
  unfold pollCount; split <;> rfl
@[simp] theorem pollCount_ay : (pollCount s).ay = s.ay := by
  unfold pollCount; split <;> rfl
@[simp] theorem pollCount_az : (pollCount s).az = s.az := by
  unfold pollCount; split <;> rfl
@[simp] theorem pollCount_frame : (pollCount s).frame = s.frame := by
  unfold pollCount; split <;> rfl
@[simp] theorem pollCount_lastErrState : (pollCount s).lastErrState = s.lastErrState := by
  unfold pollCount; split <;> rfl
@[simp] theorem pollCount_txnPending : (pollCount s).txnPending = s.txnPending := by
  unfold pollCount; split <;> rfl
@[simp] theorem pollCount_txIdx : (pollCount s).txIdx = s.txIdx := by
  unfold pollCount; split <;> rfl
@[simp] theorem pollCount_req : (pollCount s).req = s.req := by
  unfold pollCount; split <;> rfl
@[simp] theorem pollCount_out : (pollCount s).out = s.out := by
  unfold pollCount; split <;> rfl
@[simp] theorem pollCount_params : (pollCount s).params = s.params := by
  unfold pollCount; split <;> rfl
@[simp] theorem pollCount_replies : (pollCount s).replies = s.replies := by
  unfold pollCount; split <;> rfl
@[simp] theorem pollCount_drawIdx : (pollCount s).drawIdx = s.drawIdx := by
  unfold pollCount; split <;> rfl
@[simp] theorem pollCount_rstIn : (pollCount s).rstIn = s.rstIn := by
  unfold pollCount; split <;> rfl

/-! ### frameWrites: only the frame buffer changes -/

@[simp] theorem frameWrites_state (ws : List (Fin 14 × Byte)) : (frameWrites ws s).state = s.state := by
  induction ws generalizing s with
  | nil => rfl
  | cons w ws ih => simp [frameWrites, ih]
@[simp] theorem frameWrites_idVal (ws : List (Fin 14 × Byte)) : (frameWrites ws s).idVal = s.idVal := by
  induction ws generalizing s with
  | nil => rfl
  | cons w ws ih => simp [frameWrites, ih]
@[simp] theorem frameWrites_c1Val (ws : List (Fin 14 × Byte)) : (frameWrites ws s).c1Val = s.c1Val := by
  induction ws generalizing s with
  | nil => rfl
  | cons w ws ih => simp [frameWrites, ih]
@[simp] theorem frameWrites_c4Val (ws : List (Fin 14 × Byte)) : (frameWrites ws s).c4Val = s.c4Val := by
  induction ws generalizing s with
  | nil => rfl
  | cons w ws ih => simp [frameWrites, ih]
@[simp] theorem frameWrites_stVal (ws : List (Fin 14 × Byte)) : (frameWrites ws s).stVal = s.stVal := by
  induction ws generalizing s with
  | nil => rfl
  | cons w ws ih => simp [frameWrites, ih]
@[simp] theorem frameWrites_xl (ws : List (Fin 14 × Byte)) : (frameWrites ws s).xl = s.xl := by
  induction ws generalizing s with
  | nil => rfl
  | cons w ws ih => simp [frameWrites, ih]
@[simp] theorem frameWrites_xh (ws : List (Fin 14 × Byte)) : (frameWrites ws s).xh = s.xh := by
  induction ws generalizing s with
  | nil => rfl
  | cons w ws ih => simp [frameWrites, ih]
@[simp] theorem frameWrites_yl (ws : List (Fin 14 × Byte)) : (frameWrites ws s).yl = s.yl := by
  induction ws generalizing s with
  | nil => rfl
  | cons w ws ih => simp [frameWrites, ih]
@[simp] theorem frameWrites_yh (ws : List (Fin 14 × Byte)) : (frameWrites ws s).yh = s.yh := by
  induction ws generalizing s with
  | nil => rfl
  | cons w ws ih => simp [frameWrites, ih]
@[simp] theorem frameWrites_zl (ws : List (Fin 14 × Byte)) : (frameWrites ws s).zl = s.zl := by
  induction ws generalizing s with
  | nil => rfl
  | cons w ws ih => simp [frameWrites, ih]
@[simp] theorem frameWrites_zh (ws : List (Fin 14 × Byte)) : (frameWrites ws s).zh = s.zh := by
  induction ws generalizing s with
  | nil => rfl
  | cons w ws ih => simp [frameWrites, ih]
@[simp] theorem frameWrites_errGate (ws : List (Fin 14 × Byte)) : (frameWrites ws s).errGate = s.errGate := by
  induction ws generalizing s with
  | nil => rfl
  | cons w ws ih => simp [frameWrites, ih]
@[simp] theorem frameWrites_ax (ws : List (Fin 14 × Byte)) : (frameWrites ws s).ax = s.ax := by
  induction ws generalizing s with
  | nil => rfl
  | cons w ws ih => simp [frameWrites, ih]
@[simp] theorem frameWrites_ay (ws : List (Fin 14 × Byte)) : (frameWrites ws s).ay = s.ay := by
  induction ws generalizing s with
  | nil => rfl
  | cons w ws ih => simp [frameWrites, ih]
@[simp] theorem frameWrites_az (ws : List (Fin 14 × Byte)) : (frameWrites ws s).az = s.az := by
  induction ws generalizing s with
  | nil => rfl
  | cons w ws ih => simp [frameWrites, ih]
@[simp] theorem frameWrites_flags (ws : List (Fin 14 × Byte)) : (frameWrites ws s).flags = s.flags := by
  induction ws generalizing s with
  | nil => rfl
  | cons w ws ih => simp [frameWrites, ih]
@[simp] theorem frameWrites_lastErrState (ws : List (Fin 14 × Byte)) : (frameWrites ws s).lastErrState = s.lastErrState := by
  induction ws generalizing s with
  | nil => rfl
  | cons w ws ih => simp [frameWrites, ih]
@[simp] theorem frameWrites_pollCnt (ws : List (Fin 14 × Byte)) : (frameWrites ws s).pollCnt = s.pollCnt := by
  induction ws generalizing s with
  | nil => rfl
  | cons w ws ih => simp [frameWrites, ih]
@[simp] theorem frameWrites_txnPending (ws : List (Fin 14 × Byte)) : (frameWrites ws s).txnPending = s.txnPending := by
  induction ws generalizing s with
  | nil => rfl
  | cons w ws ih => simp [frameWrites, ih]
@[simp] theorem frameWrites_txIdx (ws : List (Fin 14 × Byte)) : (frameWrites ws s).txIdx = s.txIdx := by
  induction ws generalizing s with
  | nil => rfl
  | cons w ws ih => simp [frameWrites, ih]
@[simp] theorem frameWrites_req (ws : List (Fin 14 × Byte)) : (frameWrites ws s).req = s.req := by
  induction ws generalizing s with
  | nil => rfl
  | cons w ws ih => simp [frameWrites, ih]
@[simp] theorem frameWrites_out (ws : List (Fin 14 × Byte)) : (frameWrites ws s).out = s.out := by
  induction ws generalizing s with
  | nil => rfl
  | cons w ws ih => simp [frameWrites, ih]
@[simp] theorem frameWrites_params (ws : List (Fin 14 × Byte)) : (frameWrites ws s).params = s.params := by
  induction ws generalizing s with
  | nil => rfl
  | cons w ws ih => simp [frameWrites, ih]
@[simp] theorem frameWrites_replies (ws : List (Fin 14 × Byte)) : (frameWrites ws s).replies = s.replies := by
  induction ws generalizing s with
  | nil => rfl
  | cons w ws ih => simp [frameWrites, ih]
@[simp] theorem frameWrites_drawIdx (ws : List (Fin 14 × Byte)) : (frameWrites ws s).drawIdx = s.drawIdx := by
  induction ws generalizing s with
  | nil => rfl
  | cons w ws ih => simp [frameWrites, ih]
@[simp] theorem frameWrites_rstIn (ws : List (Fin 14 × Byte)) : (frameWrites ws s).rstIn = s.rstIn := by
  induction ws generalizing s with
  | nil => rfl
  | cons w ws ih => simp [frameWrites, ih]

end Sys2Proof.Machine
end

