-- ==== Sys2Proof/Laws/Ops.lean ====
section
/-!
SUPPORT. One lemma per shared operation that says once what it can do; later proofs cite these and do not unfold.
-/
namespace Sys2Proof.Machine

/-! ### The transport transaction -/

theorem transport_answered (d : Desc) (fin : Response → State → State) {s : State} {r : Response}
    (h : s.nextReply = some r) : transport d fin s = .next (fin r (s.popReply.logTxn d r)) := by
  simp [transport, h]

theorem transport_waiting (d : Desc) (fin : Response → State → State) {s : State}
    (h : s.nextReply = none) : transport d fin s = .next s.popReply := by
  simp [transport, h]

/-- Everything a transport operation can do. -/
theorem transport_cases {d : Desc} {fin : Response → State → State} {s t : State}
    (h : transport d fin s = .next t) :
    (s.nextReply = none ∧ t = s.popReply) ∨
    (∃ r, s.nextReply = some r ∧ t = fin r (s.popReply.logTxn d r)) := by
  cases hr : s.nextReply with
  | none => rw [transport_waiting d fin hr] at h; cases h; exact .inl ⟨rfl, rfl⟩
  | some r => rw [transport_answered d fin hr] at h; cases h; exact .inr ⟨r, rfl, rfl⟩

theorem nextReply_cons (s : State) (r : Option Response) (rs : List (Option Response)) (h : s.replies = r :: rs) :
    s.nextReply = r := by
  simp [State.nextReply, h]

theorem popReply_drawIdx_cons {s : State} {r : Option Response} {rs : List (Option Response)}
    (h : s.replies = r :: rs) : s.popReply.drawIdx = s.drawIdx := by
  simp [State.popReply, h]

theorem popReply_drawIdx_nil {s : State} (h : s.replies = []) : s.popReply.drawIdx = s.drawIdx + 1 := by
  simp [State.popReply, h]

/-! ### Which operation has which meaning -/

/-- The three families of meanings: a transport operation, or a state change without a transaction. -/
theorem exec_cases (i : Instr) (s : State) :
    (∃ d fin, descOf i = some d ∧ exec i s = transport d fin s) ∨
    (descOf i = none ∧ (i = .conv ∧ exec i s = .next (effectConv s) ∨
      i = .pack ∧ exec i s = .next (effectPack s) ∨ i = .emit ∧ exec i s = .next (effectEmit s))) := by
  cases i
  case conv => exact .inr ⟨rfl, .inl ⟨rfl, rfl⟩⟩
  case pack => exact .inr ⟨rfl, .inr (.inl ⟨rfl, rfl⟩)⟩
  case emit => exact .inr ⟨rfl, .inr (.inr ⟨rfl, rfl⟩)⟩
  all_goals exact .inl ⟨_, _, rfl, rfl⟩

/-- Every operation answers a next state (R181). -/
theorem exec_next (i : Instr) (s : State) : ∃ t, exec i s = .next t := by
  rcases exec_cases i s with ⟨d, fin, -, h⟩ | ⟨-, ⟨-, h⟩ | ⟨-, h⟩ | ⟨-, h⟩⟩
  · exact ⟨_, h⟩
  all_goals exact ⟨_, h⟩

/-- Everything a step can do. -/
theorem step_cases {s t : State} (h : step s = .next t) :
    (∃ k, s.rstNow = some k ∧ t = s.popRst.resetDuring k) ∨
    (s.rstNow = none ∧ ∃ i, decode s.state = .ok i ∧ exec i s.popRst = .next t) ∨
    (s.rstNow = none ∧ ∃ e, decode s.state = .error e ∧ t = recover s.popRst) := by
  unfold step at h
  cases hr : s.rstNow with
  | some k => simp only [hr] at h; cases h; exact .inl ⟨k, rfl, rfl⟩
  | none =>
    simp only [hr] at h
    cases hd : decode s.state with
    | ok i => simp only [hd] at h; exact .inr (.inl ⟨rfl, i, rfl, h⟩)
    | error e => simp only [hd] at h; cases h; exact .inr (.inr ⟨rfl, e, rfl, rfl⟩)

/-! ### The frame buffer -/

theorem Memory.wfAbove_mono {lo lo' : Nat} (hle : lo ≤ lo') {m : Memory} (h : Memory.wfAbove lo' m = true) :
    Memory.wfAbove lo m = true := by
  cases m with
  | nil => rfl
  | cons c rest =>
    simp only [Memory.wfAbove, Bool.and_eq_true, decide_eq_true_eq] at h ⊢
    exact ⟨⟨⟨by omega, h.1.1.2⟩, h.1.2⟩, h.2⟩

/-- Below the first entry every offset is unlisted. -/
theorem Memory.get_of_wfAbove {lo a : Nat} (ha : a ≤ lo) {m : Memory} (h : Memory.wfAbove lo m = true) :
    Memory.get a m = Memory.unlisted a := by
  induction m generalizing lo with
  | nil => rfl
  | cons c rest ih =>
    obtain ⟨b, w⟩ := c
    simp only [Memory.wfAbove, Bool.and_eq_true, decide_eq_true_eq] at h
    simp only [Memory.get, if_neg (show a ≠ b by omega)]
    exact ih (by omega) h.2

/-- Every store keeps the canonical form. -/
theorem Memory.set_wfAbove {lo a : Nat} (hlo : lo < a) (ha : a < 13) (v : Byte) {m : Memory}
    (h : Memory.wfAbove lo m = true) : Memory.wfAbove lo (Memory.set a v m) = true := by
  induction m generalizing lo with
  | nil =>
    simp only [Memory.set]
    split <;> simp_all [Memory.wfAbove]
  | cons c rest ih =>
    obtain ⟨b, w⟩ := c
    simp only [Memory.wfAbove, Bool.and_eq_true, decide_eq_true_eq] at h
    obtain ⟨⟨⟨h1, h2⟩, h3⟩, h4⟩ := h
    simp only [Memory.set]
    split
    · split
      · simp [Memory.wfAbove, h1, h2, h3, h4]
      · simp [Memory.wfAbove, *]
    · split
      · subst b
        split
        · exact Memory.wfAbove_mono (by omega) h4
        · simp [Memory.wfAbove, *]
      · have := ih (lo := b) (by omega) h4
        simp [Memory.wfAbove, *]

theorem Memory.set_wf {a : Nat} (h0 : 0 < a) (ha : a < 13) (v : Byte) {m : Memory} (h : m.wf = true) :
    (Memory.set a v m).wf = true :=
  Memory.set_wfAbove h0 ha v h

/-- Reading back what was stored. -/
theorem Memory.get_set_same {lo : Nat} (a : Nat) (v : Byte) {m : Memory} (h : Memory.wfAbove lo m = true) :
    Memory.get a (Memory.set a v m) = v := by
  induction m generalizing lo with
  | nil =>
    simp only [Memory.set]
    split
    · rename_i hv; simp [Memory.get, hv]
    · simp [Memory.get]
  | cons c rest ih =>
    obtain ⟨b, w⟩ := c
    have h' := h
    simp only [Memory.wfAbove, Bool.and_eq_true, decide_eq_true_eq] at h
    simp only [Memory.set]
    split
    · rename_i hab
      split
      · rename_i hv
        rw [hv, Memory.get, if_neg (by omega)]
        exact Memory.get_of_wfAbove (by omega) h.2
      · simp [Memory.get]
    · split
      · subst b
        split
        · rename_i hv; rw [hv]; exact Memory.get_of_wfAbove (le_refl a) h.2
        · simp [Memory.get]
      · rename_i hne
        rw [Memory.get, if_neg hne]; exact ih h.2

/-- A store leaves every other offset alone, in any list. -/
theorem Memory.get_set_other {a b : Nat} (hne : b ≠ a) (v : Byte) (m : Memory) :
    Memory.get b (Memory.set a v m) = Memory.get b m := by
  induction m with
  | nil =>
    simp only [Memory.set]
    split <;> simp [Memory.get, hne]
  | cons c rest ih =>
    obtain ⟨e, w⟩ := c
    simp only [Memory.set]
    split
    · split <;> simp [Memory.get, hne]
    · split
      · subst e; split <;> simp [Memory.get, hne]
      · simp only [Memory.get, ih]

/-- Every frame write keeps the canonical form. -/
theorem frameWrite_wf (o : Fin 14) (v : Byte) {s : State} (h : s.frame.wf = true) :
    (frameWrite o v s).frame.wf = true := by
  rw [frameWrite_frame]
  split
  · exact h
  · rename_i hn
    have h0 : o.val ≠ 0 := fun e => hn (.inl (Fin.ext e))
    have h13 : o.val ≠ 13 := fun e => hn (.inr (Fin.ext e))
    exact Memory.set_wf (by omega) (by omega) v h

theorem frameWrites_wf (ws : List (Fin 14 × Byte)) {s : State} (h : s.frame.wf = true) :
    (frameWrites ws s).frame.wf = true := by
  induction ws generalizing s with
  | nil => exact h
  | cons w ws ih => exact ih (frameWrite_wf w.1 w.2 h)

/-- What a frame write does to every byte of the frame (R29, R53). -/
theorem frameRead_frameWrite (o p : Fin 14) (v : Byte) {s : State} (h : s.frame.wf = true) :
    frameRead (frameWrite o v s) p = if p = o ∧ o ≠ 0 ∧ o ≠ 13 then v else frameRead s p := by
  simp only [frameRead, frameWrite_frame]
  by_cases ho : o = 0 ∨ o = 13
  · rw [if_pos ho]
    have : ¬ (p = o ∧ o ≠ 0 ∧ o ≠ 13) := by rintro ⟨-, a, b⟩; exact ho.elim a b
    rw [if_neg this]
  · rw [if_neg ho]
    push Not at ho
    by_cases hp : p = o
    · subst hp
      simp [ho.1, ho.2, Memory.get_set_same p.val v h]
    · have hv : p.val ≠ o.val := fun e => hp (Fin.ext e)
      simp [hp, Memory.get_set_other hv]

/-- Reads depend on the frame buffer only. -/
theorem frameRead_congr {s t : State} (h : s.frame = t.frame) (p : Fin 14) : frameRead s p = frameRead t p := by
  simp [frameRead, h]

/-- At the 14 offsets that exist, the byte presented to the sink is the frame byte. -/
theorem txByte_of_lt (s : State) {k : BitVec 4} (h : k.toNat < 14) : txByte s k = frameRead s (Fin.ofNat 14 k.toNat) := by
  simp [txByte, h]

end Sys2Proof.Machine
end

