-- ==== Sys2Proof/Laws/Finish.lean ====
section
/-!
SUPPORT. What each operation does with its response, as one record update with the error case inside the fields: the form in
which the rules of 40_configure.md and 41_acquire.md can be compared field by field.
-/
namespace Sys2Proof.Machine

variable (r : Response) (s : State)

theorem finishIdRd_eq : finishIdRd r s = { s with
    idVal := if r.err then s.idVal else data0 r
    flags := { s.flags with cfgErr := s.flags.cfgErr || r.err, idMismatch := mismatch r Config.idExpected }
    lastErrState := if r.err then 0x0#4 else s.lastErrState
    state := 0x1#4 } := by
  cases h : r.err <;> simp [finishIdRd, h, reportError]

theorem finishC1Rd_eq : finishC1Rd r s = { s with
    c1Val := if r.err then s.c1Val else data0 r
    flags := { s.flags with cfgErr := s.flags.cfgErr || r.err }
    lastErrState := if r.err then 0x1#4 else s.lastErrState
    state := if mismatch r Config.ctrl1Cfg then 0x2#4 else 0x4#4 } := by
  cases h : r.err <;> simp [finishC1Rd, h, reportError]

theorem finishC1Wr_eq : finishC1Wr r s = { s with
    flags := { s.flags with cfgErr := s.flags.cfgErr || r.err, c1Written := true }
    lastErrState := if r.err then 0x2#4 else s.lastErrState
    state := 0x3#4 } := by
  cases h : r.err <;> simp [finishC1Wr, h, reportError]

theorem finishC1Vr_eq : finishC1Vr r s = { s with
    c1Val := if r.err then s.c1Val else data0 r
    flags := { s.flags with cfgErr := s.flags.cfgErr || r.err, c1Mismatch := mismatch r Config.ctrl1Cfg }
    lastErrState := if r.err then 0x3#4 else s.lastErrState
    state := 0x4#4 } := by
  cases h : r.err <;> simp [finishC1Vr, h, reportError]

theorem finishC4Rd_eq : finishC4Rd r s = { s with
    c4Val := if r.err then s.c4Val else data0 r
    flags := { s.flags with cfgErr := s.flags.cfgErr || r.err }
    lastErrState := if r.err then 0x4#4 else s.lastErrState
    state := 0x5#4 } := by
  cases h : r.err <;> simp [finishC4Rd, h, reportError]

theorem finishC4Wr_eq : finishC4Wr r s = { s with
    flags := { s.flags with cfgErr := s.flags.cfgErr || r.err }
    lastErrState := if r.err then 0x5#4 else s.lastErrState
    state := 0x6#4 } := by
  cases h : r.err <;> simp [finishC4Wr, h, reportError]

theorem finishC4Vr_eq : finishC4Vr r s = { s with
    c4Val := if r.err then s.c4Val else data0 r
    flags := { s.flags with
      cfgErr := s.flags.cfgErr || r.err, c4Mismatch := mismatch r Config.ctrl4Cfg, cfgDone := true }
    lastErrState := if r.err then 0x6#4 else s.lastErrState
    state := 0x7#4 } := by
  cases h : r.err <;> simp [finishC4Vr, h, reportError]

theorem pollReady_iff : pollReady r = true ↔ r.err = false ∧ r.data.getLsbD 3 = true := by
  simp [pollReady, ready, data0, Config.zyxdaBit]

theorem finishPoll_ready (h : pollReady r = true) : finishPoll r s = { s with
    stVal := data0 r
    pollCnt := 0#32
    state := 0x8#4 } := by
  simp [finishPoll, h, ((pollReady_iff r).1 h).1]

/-- The n-th consecutive not-ready POLL, for POLL_LIMIT = n (R122). -/
abbrev AtPollLimit (s : State) : Prop :=
  0 < s.params.pollLimit.toNat ∧ s.pollCnt.toNat + 1 = s.params.pollLimit.toNat

theorem pollCount_eq : pollCount s = { s with
    flags := { s.flags with timeout := s.flags.timeout || decide (AtPollLimit s) }
    pollCnt := if AtPollLimit s then 0#32 else s.pollCnt + 1#32 } := by
  by_cases h : AtPollLimit s
  · simp only [pollCount, if_pos h, decide_eq_true h, Bool.or_true]
  · simp only [pollCount, if_neg h, decide_eq_false h, Bool.or_false]

theorem finishPoll_notReady (h : pollReady r = false) : finishPoll r s = { s with
    stVal := if r.err then s.stVal else data0 r
    flags := { s.flags with
      acqErr := s.flags.acqErr || r.err, timeout := s.flags.timeout || decide (AtPollLimit s) }
    lastErrState := if r.err then 0x7#4 else s.lastErrState
    pollCnt := if AtPollLimit s then 0#32 else s.pollCnt + 1#32
    state := 0x7#4 } := by
  cases he : r.err <;> simp [finishPoll, h, he, pollCount_eq, reportError, AtPollLimit]

theorem finishRdX_eq : finishRdX r s = { s with
    xl := if r.err then s.xl else data0 r
    xh := if r.err then s.xh else data1 r
    errGate := r.err
    flags := { s.flags with acqErr := s.flags.acqErr || r.err }
    lastErrState := if r.err then 0x8#4 else s.lastErrState
    state := 0x9#4 } := by
  cases h : r.err <;> simp [finishRdX, h, reportError]

theorem finishRdY_eq : finishRdY r s = { s with
    yl := if r.err then s.yl else data0 r
    yh := if r.err then s.yh else data1 r
    errGate := r.err
    flags := { s.flags with acqErr := s.flags.acqErr || r.err }
    lastErrState := if r.err then 0x9#4 else s.lastErrState
    state := 0xA#4 } := by
  cases h : r.err <;> simp [finishRdY, h, reportError]

theorem finishRdZ_eq : finishRdZ r s = { s with
    zl := if r.err then s.zl else data0 r
    zh := if r.err then s.zh else data1 r
    errGate := r.err
    flags := { s.flags with acqErr := s.flags.acqErr || r.err }
    lastErrState := if r.err then 0xA#4 else s.lastErrState
    state := 0xB#4 } := by
  cases h : r.err <;> simp [finishRdZ, h, reportError]

/-- PACK changes the frame buffer and the state register only. -/
theorem effectPack_eq : effectPack s = { s with
    frame := (frameWrites (packWrites s.ax s.ay s.az) s).frame
    state := 0xD#4 } := by
  have h (ws : List (Fin 14 × Byte)) : frameWrites ws s = { s with frame := (frameWrites ws s).frame } := by
    induction ws generalizing s with
    | nil => rfl
    | cons w ws ih =>
      rw [frameWrites, ih (frameWrite w.1 w.2 s)]
      unfold frameWrite
      split <;> rfl
  unfold effectPack
  rw [h]
  rfl

/-- A byte of the frame after several writes: the last write to it, if it is not hardwired. -/
theorem frameRead_frameWrites (ws : List (Fin 14 × Byte)) (p : Fin 14) (h : s.frame.wf = true) :
    frameRead (frameWrites ws s) p =
      ws.foldl (fun b w => if p = w.1 ∧ w.1 ≠ 0 ∧ w.1 ≠ 13 then w.2 else b) (frameRead s p) := by
  induction ws generalizing s with
  | nil => rfl
  | cons w ws ih =>
    rw [frameWrites, ih _ (frameWrite_wf w.1 w.2 h), frameRead_frameWrite w.1 p w.2 h]
    rfl

/-! ### The transport operations as one family -/

/-- What a transport operation does with its response; CONV, PACK and EMIT have none. -/
def finishOf (i : Instr) : Response → State → State :=
  match i with
  | .idRd => finishIdRd
  | .c1Rd => finishC1Rd
  | .c1Wr => finishC1Wr
  | .c1Vr => finishC1Vr
  | .c4Rd => finishC4Rd
  | .c4Wr => finishC4Wr
  | .c4Vr => finishC4Vr
  | .poll => finishPoll
  | .rdX  => finishRdX
  | .rdY  => finishRdY
  | .rdZ  => finishRdZ
  | .conv => fun _ s => s
  | .pack => fun _ s => s
  | .emit => fun _ s => s

theorem exec_transport {i : Instr} {d : Desc} (h : descOf i = some d) (s : State) :
    exec i s = transport d (finishOf i) s := by
  cases i <;> cases h <;> rfl

/-- Everything an operation can do: a transport operation waits or completes with its answer; the others have their effect. -/
theorem exec_inv {i : Instr} {s t : State} (h : exec i s = .next t) :
    (∃ d, descOf i = some d ∧
      ((s.nextReply = none ∧ t = s.popReply) ∨
       (∃ r, s.nextReply = some r ∧ t = finishOf i r (s.popReply.logTxn d r)))) ∨
    (i = .conv ∧ t = effectConv s) ∨ (i = .pack ∧ t = effectPack s) ∨ (i = .emit ∧ t = effectEmit s) := by
  cases hd : descOf i with
  | some d => rw [exec_transport hd] at h; exact .inl ⟨d, rfl, transport_cases h⟩
  | none =>
    cases i <;> cases hd
    · cases h; exact .inr (.inl ⟨rfl, rfl⟩)
    · cases h; exact .inr (.inr (.inl ⟨rfl, rfl⟩))
    · cases h; exact .inr (.inr (.inr ⟨rfl, rfl⟩))

/-- POLL's completion in one form. -/
theorem finishPoll_eq : finishPoll r s = { s with
    stVal := if r.err then s.stVal else data0 r
    flags := { s.flags with
      acqErr := s.flags.acqErr || r.err
      timeout := s.flags.timeout || (!pollReady r && decide (AtPollLimit s)) }
    lastErrState := if r.err then 0x7#4 else s.lastErrState
    pollCnt := if pollReady r = true ∨ AtPollLimit s then 0#32 else s.pollCnt + 1#32
    state := if pollReady r then 0x8#4 else 0x7#4 } := by
  cases h : pollReady r
  · rw [finishPoll_notReady r s h]
    simp
  · rw [finishPoll_ready r s h]
    simp [((pollReady_iff r).1 h).1]

@[simp] theorem finishOf_ax (i : Instr) : (finishOf i r s).ax = s.ax := by
  cases i <;> simp [finishOf, finishIdRd_eq, finishC1Rd_eq, finishC1Wr_eq, finishC1Vr_eq, finishC4Rd_eq, finishC4Wr_eq,
    finishC4Vr_eq, finishPoll_eq, finishRdX_eq, finishRdY_eq, finishRdZ_eq]
@[simp] theorem finishOf_ay (i : Instr) : (finishOf i r s).ay = s.ay := by
  cases i <;> simp [finishOf, finishIdRd_eq, finishC1Rd_eq, finishC1Wr_eq, finishC1Vr_eq, finishC4Rd_eq, finishC4Wr_eq,
    finishC4Vr_eq, finishPoll_eq, finishRdX_eq, finishRdY_eq, finishRdZ_eq]
@[simp] theorem finishOf_az (i : Instr) : (finishOf i r s).az = s.az := by
  cases i <;> simp [finishOf, finishIdRd_eq, finishC1Rd_eq, finishC1Wr_eq, finishC1Vr_eq, finishC4Rd_eq, finishC4Wr_eq,
    finishC4Vr_eq, finishPoll_eq, finishRdX_eq, finishRdY_eq, finishRdZ_eq]
@[simp] theorem finishOf_frame (i : Instr) : (finishOf i r s).frame = s.frame := by
  cases i <;> simp [finishOf, finishIdRd_eq, finishC1Rd_eq, finishC1Wr_eq, finishC1Vr_eq, finishC4Rd_eq, finishC4Wr_eq,
    finishC4Vr_eq, finishPoll_eq, finishRdX_eq, finishRdY_eq, finishRdZ_eq]
@[simp] theorem finishOf_txnPending (i : Instr) : (finishOf i r s).txnPending = s.txnPending := by
  cases i <;> simp [finishOf, finishIdRd_eq, finishC1Rd_eq, finishC1Wr_eq, finishC1Vr_eq, finishC4Rd_eq, finishC4Wr_eq,
    finishC4Vr_eq, finishPoll_eq, finishRdX_eq, finishRdY_eq, finishRdZ_eq]
@[simp] theorem finishOf_txIdx (i : Instr) : (finishOf i r s).txIdx = s.txIdx := by
  cases i <;> simp [finishOf, finishIdRd_eq, finishC1Rd_eq, finishC1Wr_eq, finishC1Vr_eq, finishC4Rd_eq, finishC4Wr_eq,
    finishC4Vr_eq, finishPoll_eq, finishRdX_eq, finishRdY_eq, finishRdZ_eq]
@[simp] theorem finishOf_req (i : Instr) : (finishOf i r s).req = s.req := by
  cases i <;> simp [finishOf, finishIdRd_eq, finishC1Rd_eq, finishC1Wr_eq, finishC1Vr_eq, finishC4Rd_eq, finishC4Wr_eq,
    finishC4Vr_eq, finishPoll_eq, finishRdX_eq, finishRdY_eq, finishRdZ_eq]
@[simp] theorem finishOf_out (i : Instr) : (finishOf i r s).out = s.out := by
  cases i <;> simp [finishOf, finishIdRd_eq, finishC1Rd_eq, finishC1Wr_eq, finishC1Vr_eq, finishC4Rd_eq, finishC4Wr_eq,
    finishC4Vr_eq, finishPoll_eq, finishRdX_eq, finishRdY_eq, finishRdZ_eq]
@[simp] theorem finishOf_params (i : Instr) : (finishOf i r s).params = s.params := by
  cases i <;> simp [finishOf, finishIdRd_eq, finishC1Rd_eq, finishC1Wr_eq, finishC1Vr_eq, finishC4Rd_eq, finishC4Wr_eq,
    finishC4Vr_eq, finishPoll_eq, finishRdX_eq, finishRdY_eq, finishRdZ_eq]
@[simp] theorem finishOf_replies (i : Instr) : (finishOf i r s).replies = s.replies := by
  cases i <;> simp [finishOf, finishIdRd_eq, finishC1Rd_eq, finishC1Wr_eq, finishC1Vr_eq, finishC4Rd_eq, finishC4Wr_eq,
    finishC4Vr_eq, finishPoll_eq, finishRdX_eq, finishRdY_eq, finishRdZ_eq]
@[simp] theorem finishOf_drawIdx (i : Instr) : (finishOf i r s).drawIdx = s.drawIdx := by
  cases i <;> simp [finishOf, finishIdRd_eq, finishC1Rd_eq, finishC1Wr_eq, finishC1Vr_eq, finishC4Rd_eq, finishC4Wr_eq,
    finishC4Vr_eq, finishPoll_eq, finishRdX_eq, finishRdY_eq, finishRdZ_eq]
@[simp] theorem finishOf_rstIn (i : Instr) : (finishOf i r s).rstIn = s.rstIn := by
  cases i <;> simp [finishOf, finishIdRd_eq, finishC1Rd_eq, finishC1Wr_eq, finishC1Vr_eq, finishC4Rd_eq, finishC4Wr_eq,
    finishC4Vr_eq, finishPoll_eq, finishRdX_eq, finishRdY_eq, finishRdZ_eq]

/-- The codes of the transport operations. -/
theorem encode_le_of_descOf {i : Instr} {d : Desc} (h : descOf i = some d) : (encode i).toNat ≤ 0xA := by
  cases i <;> cases h <;> decide

theorem decode_eq_ok {c : Code} {i : Instr} (h : decode c = .ok i) : c = encode i := by
  obtain ⟨k, rfl⟩ : ∃ k : Fin 16, c = BitVec.ofFin k := ⟨c.toFin, rfl⟩
  revert h
  fin_cases k <;> (cases i <;> first | exact fun _ => rfl | (intro h; exfalso; revert h; decide))

theorem decode_eq_error {c : Code} {e : DecodeReject} (h : decode c = .error e) : 0xD < c.toNat := by
  obtain ⟨k, rfl⟩ : ∃ k : Fin 16, c = BitVec.ofFin k := ⟨c.toFin, rfl⟩
  revert h
  fin_cases k <;> simp [decode]

end Sys2Proof.Machine
end

