-- ==== Sys2Proof/Laws/Cycle.lean ====
section
/-!
SUPPORT. The cycle level one cycle at a time.
-/
namespace Sys2Proof.Machine

theorem cycleOp_transport {i : Instr} {d : Desc} (h : descOf i = some d) (p : PortIn) (s : State) :
    cycleOp i p s = handshake d (finishOf i) p s := by
  cases i <;> cases h <;> rfl

/-- The first cycle of a transport operation: the request goes out, the response strobe is ignored (R78). -/
theorem handshake_first (d : Desc) (fin : Response → State → State) (p : PortIn) {s : State} (h : s.txnPending = false) :
    handshake d fin p s = s.holdRequest := by
  simp [handshake, h]

/-- A waiting cycle. -/
theorem handshake_wait (d : Desc) (fin : Response → State → State) {p : PortIn} {s : State} (h : s.txnPending = true)
    (hp : p.rspValid = false) : handshake d fin p s = s := by
  simp [handshake, h, hp]

/-- The answering cycle. -/
theorem handshake_answer (d : Desc) (fin : Response → State → State) {p : PortIn} {s : State} (h : s.txnPending = true)
    (hp : p.rspValid = true) : handshake d fin p s = fin p.response (s.logTxn d p.response) := by
  simp [handshake, h, hp]

theorem cycle_reset {p : PortIn} (s : State) (h : p.rst = true) : cycle p s = s.resetNow := by
  simp [cycle, h]

theorem cycle_op {p : PortIn} {s : State} {i : Instr} (h : p.rst = false) (hd : decode s.state = .ok i) :
    cycle p s = cycleOp i p s := by
  simp [cycle, h, hd]

theorem cycles_append (ps qs : List PortIn) (s : State) : cycles (ps ++ qs) s = cycles qs (cycles ps s) := by
  induction ps generalizing s with
  | nil => rfl
  | cons p ps ih => exact ih (cycle p s)

end Sys2Proof.Machine
end

