-- ==== Sys2Proof/Laws/PerInstr.lean ====
section
/-!
SUPPORT. Statements made per instruction. Family IssuedDesc: the descriptor an operation issues is well formed, and the word
it drives on `req_desc` reads back as that descriptor (30_encoding.md R72, R74).
-/
namespace Sys2Proof.Laws.IssuedDesc

/-- The family's statement about an operation as syntax. -/
def Statement (i : Instr) : Prop :=
  ∀ d, Machine.descOf i = some d → d.wf = true ∧ decodeDesc (encodeDesc d) = .ok d

theorem idRd : Statement .idRd := by intro d h; cases h; decide
theorem c1Rd : Statement .c1Rd := by intro d h; cases h; decide
theorem c1Wr : Statement .c1Wr := by intro d h; cases h; decide
theorem c1Vr : Statement .c1Vr := by intro d h; cases h; decide
theorem c4Rd : Statement .c4Rd := by intro d h; cases h; decide
theorem c4Wr : Statement .c4Wr := by intro d h; cases h; decide
theorem c4Vr : Statement .c4Vr := by intro d h; cases h; decide
theorem poll : Statement .poll := by intro d h; cases h; decide
theorem rdX : Statement .rdX := by intro d h; cases h; decide
theorem rdY : Statement .rdY := by intro d h; cases h; decide
theorem rdZ : Statement .rdZ := by intro d h; cases h; decide
theorem conv : Statement .conv := by intro d h; cases h
theorem pack : Statement .pack := by intro d h; cases h
theorem emit : Statement .emit := by intro d h; cases h

end Sys2Proof.Laws.IssuedDesc
end

