-- ==== Sys2Proof/Laws/Run.lean ====
section
/-!
SUPPORT. Runs and traces one step at a time, and the step of an operation with no `rst` input pending.
-/
namespace Sys2Proof.Machine

theorem run_zero (s : State) : run 0 s = .next s := rfl

theorem run_succ {s t : State} (h : step s = .next t) (n : Nat) : run (n + 1) s = run n t := by
  have hc : Sys2Proof.core.step s = Host.Outcome.next t := h
  show Host.Core.run Sys2Proof.core (n + 1) s = Host.Core.run Sys2Proof.core n t
  simp only [Host.Core.run, hc]

theorem traceRun_succ {s t : State} (h : step s = .next t) (n : Nat) :
    traceRun (n + 1) s = (traceLine s).toList ++ traceRun n t := by
  simp [traceRun, h]

theorem popRst_of_nil {s : State} (h : s.rstIn = []) : s.popRst = s := by
  cases s; simp_all [State.popRst]

/-- With no `rst` input pending, a step is the selected operation at the same state. -/
theorem step_of_decode {s : State} {i : Instr} (hr : s.rstIn = []) (hd : decode s.state = .ok i) : step s = exec i s := by
  simp [step, State.rstNow, hr, hd, popRst_of_nil hr]

theorem popReply_cons {s : State} {r : Option Response} {rs : List (Option Response)} (h : s.replies = r :: rs) :
    s.popReply = { s with replies := rs } := by
  simp [State.popReply, h]

/-- The step of a transport operation whose answer is the next scripted one. -/
theorem step_answered {s : State} {i : Instr} {d : Desc} {fin : Response → State → State} {r : Response}
    {rs : List (Option Response)} (hr : s.rstIn = []) (hd : decode s.state = .ok i)
    (hx : exec i s = transport d fin s) (hq : s.replies = some r :: rs) :
    step s = .next (fin r (State.logTxn d r { s with replies := rs })) := by
  rw [step_of_decode hr hd, hx, transport_answered d fin (nextReply_cons s _ _ hq), popReply_cons hq]

/-- Its trace line. -/
theorem traceLine_answered {s : State} {i : Instr} {d : Desc} {r : Response} {rs : List (Option Response)}
    (hr : s.rstIn = []) (hd : decode s.state = .ok i) (hx : descOf i = some d) (hq : s.replies = some r :: rs) :
    traceLine s = some { op := i, rsp := some r, emitted := [] } := by
  simp [traceLine, State.rstNow, hr, hd, hx, nextReply_cons s _ _ hq]

end Sys2Proof.Machine
end

