-- ==== Sys2Proof/Tests/Slice0.lean ====
section
/-!
SUPPORT. The model's own tests: the checks of WellFormed on ill-formed terms, decoding of words written out from the tables of
30_encoding.md, one-step tests whose expected values are the vectors of 95_test_vectors.md (named in each docstring), and, for
every obligation with hypotheses, a witness that meets them together.
-/
namespace Sys2Proof.Tests

open Sys2Proof.Machine

/-! ### Helpers -/

/-- A response `ok` with one byte; the upper byte is filled with what RD1 and WR1 ignore (R75). -/
def ok1 (b : Byte) : Response := { err := false, data := 0xAB#8 ++ b }
/-- A response `ok` with data[0] and data[1]. -/
def ok2 (low high : Byte) : Response := { err := false, data := high ++ low }
/-- A response `err`. -/
def bad : Response := { err := true, data := 0x5757#16 }

/-- The reset state moved to a code, with the transport's answers to come. -/
def stateAt (c : Code) (rs : List (Option Response)) : State := { State.reset with state := c, replies := rs }

/-- The state after one step. -/
def after (s : State) : Option State :=
  match step s with
  | .next t    => some t
  | .fault _   => none
  | .refused _ => none

/-- The reset state with the parameters given. -/
def withParams (limit : Word32) (emit : Bool) (mode : Config.ConvMode) (s : State) : State :=
  { s with params := { pollLimit := limit, emitOnError := emit, convMode := mode } }

/-- The bytes of V-PACK-01. -/
def frame1 : List Byte :=
  [0xA0#8, 0xE2#8, 0x9C#8, 0x00#8, 0x00#8, 0x0B#8, 0x63#8, 0xFF#8, 0xFF#8, 0x75#8, 0x7E#8, 0x00#8, 0x00#8, 0xC0#8]

/-- The frame buffer after PACK of V-PACK-01: its bytes that are not 0. -/
def mem1 : Memory :=
  [(1, 0xE2#8), (2, 0x9C#8), (5, 0x0B#8), (6, 0x63#8), (7, 0xFF#8), (8, 0xFF#8), (9, 0x75#8), (10, 0x7E#8)]

/-! ### Well-formedness: one ill-formed descriptor for each check -/

/-- COUNT: an RD1 of 2 bytes, an RDN of 1, a WR1 of 0 (R72). -/
theorem test_wf_count_refused :
    ({ kind := .rd1, count := 2#4, dev := 0x18#7, reg := 0x20#8, wdata := 0#8 } : Desc).wf = false ∧
    ({ kind := .rdn, count := 1#4, dev := 0x18#7, reg := 0x28#8, wdata := 0#8 } : Desc).wf = false ∧
    ({ kind := .wr1, count := 0#4, dev := 0x18#7, reg := 0x20#8, wdata := 0x57#8 } : Desc).wf = false := by decide

/-- WDATA: a read that carries a byte to write (R72). -/
theorem test_wf_wdata_refused :
    ({ kind := .rd1, count := 1#4, dev := 0x18#7, reg := 0x20#8, wdata := 0x57#8 } : Desc).wf = false ∧
    ({ kind := .rdn, count := 2#4, dev := 0x18#7, reg := 0x28#8, wdata := 1#8 } : Desc).wf = false := by decide

/-- DEV: another device (R50, R72). -/
theorem test_wf_dev_refused :
    ({ kind := .rd1, count := 1#4, dev := 0x19#7, reg := 0x0F#8, wdata := 0#8 } : Desc).wf = false := by decide

/-- The frame buffer's canonical form: a hardwired offset, an unlisted value, falling offsets. -/
theorem test_frame_wf_refused :
    Memory.wf [(0, 1#8)] = false ∧ Memory.wf [(13, 1#8)] = false ∧ Memory.wf [(3, 0#8)] = false ∧
    Memory.wf [(4, 1#8), (3, 1#8)] = false ∧ Memory.wf mem1 = true := by decide

/-! ### Decoding: the words of R70's and R72's tables -/

/-- R70, the CONFIG phase. -/
theorem test_decode_config :
    decodeTableWord 8 0b0000 = some .idRd ∧ decodeTableWord 8 0b0001 = some .c1Rd ∧
    decodeTableWord 8 0b0010 = some .c1Wr ∧ decodeTableWord 8 0b0011 = some .c1Vr ∧
    decodeTableWord 8 0b0100 = some .c4Rd ∧ decodeTableWord 8 0b0101 = some .c4Wr ∧
    decodeTableWord 8 0b0110 = some .c4Vr := by decide

/-- R70, acquisition. -/
theorem test_decode_acquire :
    decodeTableWord 8 0b0111 = some .poll ∧ decodeTableWord 8 0b1000 = some .rdX ∧
    decodeTableWord 8 0b1001 = some .rdY ∧ decodeTableWord 8 0b1010 = some .rdZ := by decide

/-- R70, conversion and frame. -/
theorem test_decode_convert_frame :
    decodeTableWord 8 0b1011 = some .conv ∧ decodeTableWord 8 0b1100 = some .pack ∧
    decodeTableWord 8 0b1101 = some .emit := by decide

/-- R70, R71: the unassigned codes and a word with a fifth bit are no operations. -/
theorem test_decode_refused :
    decodeTableWord 8 0b1110 = none ∧ decodeTableWord 8 0b1111 = none ∧ decodeTableWord 8 0b10000 = none := by decide

/-- V-DESC-01: 01 00 0010 0 0011000 00101100 00000000 is RD_Z's request. -/
theorem test_desc_rdn :
    decodeDesc 0b01000010000110000010110000000000#32 =
      .ok { kind := .rdn, count := 2#4, dev := 0x18#7, reg := 0x2C#8, wdata := 0x00#8 } := by rfl

/-- V-DESC-02: 10 00 0001 0 0011000 00100000 01010111 is C1_WR's request. -/
theorem test_desc_wr1 :
    decodeDesc 0b10000001000110000010000001010111#32 =
      .ok { kind := .wr1, count := 1#4, dev := 0x18#7, reg := 0x20#8, wdata := 0x57#8 } := by rfl

/-- R74: 00 00 0001 0 0011000 00001111 00000000 is ID_RD's request. -/
theorem test_desc_rd1 :
    decodeDesc 0b00000001000110000000111100000000#32 =
      .ok { kind := .rd1, count := 1#4, dev := 0x18#7, reg := 0x0F#8, wdata := 0x00#8 } := by rfl

/-- R83: KIND = 11 and each reserved bit are refused, by name. -/
theorem test_desc_refused :
    decodeDesc 0b11000001000110000000111100000000#32 = .error .reservedKind ∧
    decodeDesc 0b00100001000110000000111100000000#32 = .error .reservedBits ∧
    decodeDesc 0b00010001000110000000111100000000#32 = .error .reservedBits ∧
    decodeDesc 0b00000001100110000000111100000000#32 = .error .reservedBits := ⟨rfl, rfl, rfl, rfl⟩

/-- A word put where the step takes its operation from runs as the first operation after reset. -/
theorem test_fetch_word :
    (after (State.reset.withFetchWord 8 0b1101)).map State.out =
      some [0xA0#8, 0#8, 0#8, 0#8, 0#8, 0#8, 0#8, 0#8, 0#8, 0#8, 0#8, 0#8, 0#8, 0xC0#8] ∧
    step (State.reset.withFetchWord 8 0b0111) = exec .poll (State.reset.withFetchWord 8 0b0111) := ⟨by decide, rfl⟩

/-! ### One step -/

/-- V-CFG-02: any other identification is recorded and not fatal. -/
theorem test_idRd_mismatch :
    (after (stateAt 0x0#4 [some (ok1 0x32#8)])).map (fun t => (t.state, t.idVal, t.flags.idMismatch, t.flags.cfgErr, t.lastErrState)) =
      some (0x1#4, 0x32#8, true, false, 0xF#4) := by decide

/-- V-CFG-03. -/
theorem test_idRd_err :
    (after (stateAt 0x0#4 [some bad])).map (fun t => (t.state, t.idVal, t.flags.idMismatch, t.flags.cfgErr, t.lastErrState)) =
      some (0x1#4, 0x00#8, true, true, 0x0#4) := by decide

/-- V-CFG-04: no write for an already configured device. -/
theorem test_c1Rd_equal :
    (after (stateAt 0x1#4 [some (ok1 0x57#8)])).map (fun t => (t.state, t.c1Val)) = some (0x4#4, 0x57#8) := by decide

/-- V-CFG-06 and V-CFG-07: one bit off writes, and so does an error whatever the data lines carry. -/
theorem test_c1Rd_write :
    (after (stateAt 0x1#4 [some (ok1 0xD7#8)])).map (fun t => (t.state, t.c1Val, t.flags.cfgErr)) = some (0x2#4, 0xD7#8, false) ∧
    (after (stateAt 0x1#4 [some bad])).map (fun t => (t.state, t.c1Val, t.flags.cfgErr)) = some (0x2#4, 0x00#8, true) := by decide

/-- V-CFG-08. -/
theorem test_c1Wr_ok :
    (after (stateAt 0x2#4 [some (ok1 0x00#8)])).map (fun t => (t.state, t.flags.c1Written, t.flags.cfgErr, t.c1Val)) =
      some (0x3#4, true, false, 0x00#8) := by decide

/-- V-CFG-09. -/
theorem test_c1Wr_err :
    (after (stateAt 0x2#4 [some bad])).map (fun t => (t.state, t.flags.c1Written, t.flags.cfgErr, t.lastErrState)) =
      some (0x3#4, true, true, 0x2#4) := by decide

/-- V-CFG-11: a mismatch is not retried. -/
theorem test_c1Vr_mismatch :
    (after (stateAt 0x3#4 [some (ok1 0x07#8)])).map (fun t => (t.state, t.c1Val, t.flags.c1Mismatch, t.flags.cfgErr)) =
      some (0x4#4, 0x07#8, true, false) := by decide

/-- V-CFG-12: an error is a mismatch even when the data lines carry 0x57. -/
theorem test_c1Vr_err :
    (after (stateAt 0x3#4 [some bad])).map (fun t => (t.state, t.c1Val, t.flags.c1Mismatch, t.lastErrState)) =
      some (0x4#4, 0x00#8, true, 0x3#4) := by decide

/-- V-CFG-13: the write follows even when CTRL4 already holds 0x98. -/
theorem test_c4Rd_ok :
    (after (stateAt 0x4#4 [some (ok1 0x98#8)])).map (fun t => (t.state, t.c4Val)) = some (0x5#4, 0x98#8) := by decide

/-- V-CFG-14. -/
theorem test_c4Rd_err :
    (after (stateAt 0x4#4 [some bad])).map (fun t => (t.state, t.c4Val, t.flags.cfgErr, t.lastErrState)) =
      some (0x5#4, 0x00#8, true, 0x4#4) := by decide

/-- V-CFG-15. -/
theorem test_c4Wr_ok :
    (after (stateAt 0x5#4 [some (ok1 0x00#8)])).map (fun t => (t.state, t.flags, t.c4Val)) =
      some (0x6#4, StatusFlags.reset, 0x00#8) := by decide

/-- V-CFG-16. -/
theorem test_c4Wr_err :
    (after (stateAt 0x5#4 [some bad])).map (fun t => (t.state, t.flags.cfgErr, t.lastErrState)) = some (0x6#4, true, 0x5#4) := by
  decide

/-- V-CFG-17 and V-CFG-18: the compare is with the whole byte. -/
theorem test_c4Vr_ok :
    (after (stateAt 0x6#4 [some (ok1 0x98#8)])).map (fun t => (t.state, t.flags.c4Mismatch, t.flags.cfgDone)) =
      some (0x7#4, false, true) ∧
    (after (stateAt 0x6#4 [some (ok1 0x18#8)])).map (fun t => (t.state, t.flags.c4Mismatch, t.flags.cfgDone)) =
      some (0x7#4, true, true) := by decide

/-- V-CFG-19. -/
theorem test_c4Vr_err :
    (after (stateAt 0x6#4 [some bad])).map
        (fun t => (t.c4Val, t.flags.c4Mismatch, t.flags.cfgDone, t.flags.cfgErr, t.lastErrState)) =
      some (0x00#8, true, true, true, 0x6#4) := by decide

/-- V-POLL-10 and V-POLL-11: the third not-ready poll of three, and a ready one in its place. -/
theorem test_poll_limit :
    (after (withParams 3#32 true .exact { stateAt 0x7#4 [some (ok1 0x00#8)] with pollCnt := 2#32 })).map
        (fun t => (t.state, t.pollCnt, t.flags.timeout)) = some (0x7#4, 0#32, true) ∧
    (after (withParams 3#32 true .exact { stateAt 0x7#4 [some (ok1 0x08#8)] with pollCnt := 2#32 })).map
        (fun t => (t.state, t.pollCnt, t.flags.timeout)) = some (0x8#4, 0#32, false) := by decide

/-- V-POLL-08 and V-POLL-14: a stale ST_VAL does not count, and the counter wraps without a limit. -/
theorem test_poll_stale_wrap :
    (after { stateAt 0x7#4 [some bad] with stVal := 0x08#8 }).map (fun t => (t.state, t.stVal, t.pollCnt)) =
      some (0x7#4, 0x08#8, 1#32) ∧
    (after { stateAt 0x7#4 [some (ok1 0xF7#8)] with pollCnt := 0xFFFFFFFF#32 }).map
        (fun t => (t.state, t.stVal, t.pollCnt, t.flags.timeout)) = some (0x7#4, 0xF7#8, 0#32, false) := by decide

/-- V-RD-01. -/
theorem test_rdX_ok :
    (after { stateAt 0x8#4 [some (ok2 0xF0#8 0x7F#8)] with errGate := true }).map (fun t => (t.state, t.xl, t.xh, t.errGate)) =
      some (0x9#4, 0xF0#8, 0x7F#8, false) := by decide

/-- V-RD-02. -/
theorem test_rdX_err :
    (after { stateAt 0x8#4 [some bad] with xl := 0x10#8 }).map
        (fun t => (t.xl, t.xh, t.errGate, t.flags.acqErr, t.flags.cfgErr, t.lastErrState)) =
      some (0x10#8, 0x00#8, true, true, false, 0x8#4) := by decide

/-- V-RD-03. -/
theorem test_rdY_ok :
    (after (stateAt 0x9#4 [some (ok2 0x00#8 0x80#8)])).map (fun t => (t.state, t.yl, t.yh, t.xh)) =
      some (0xA#4, 0x00#8, 0x80#8, 0x00#8) := by decide

/-- V-RD-04. -/
theorem test_rdY_err :
    (after (stateAt 0x9#4 [some bad])).map (fun t => (t.state, t.yl, t.yh, t.errGate, t.lastErrState)) =
      some (0xA#4, 0x00#8, 0x00#8, true, 0x9#4) := by decide

/-- V-RD-05, with RD_Y's error standing before: the last one wins. -/
theorem test_rdZ_ok :
    (after { stateAt 0xA#4 [some (ok2 0x20#8 0x67#8)] with errGate := true }).map (fun t => (t.state, t.zl, t.zh, t.errGate)) =
      some (0xB#4, 0x20#8, 0x67#8, false) := by decide

/-- V-RD-06. -/
theorem test_rdZ_err :
    (after (stateAt 0xA#4 [some bad])).map (fun t => (t.state, t.zl, t.zh, t.errGate, t.lastErrState)) =
      some (0xB#4, 0x00#8, 0x00#8, true, 0xA#4) := by decide

/-- V-CV-01 in both modes. -/
theorem test_conv_modes :
    (after { stateAt 0xB#4 [] with xl := 0xF0#8, xh := 0x7F#8, yh := 0x80#8, zl := 0x20#8, zh := 0x67#8 }).map
        (fun t => (t.state, t.ax, t.ay, t.az)) = some (0xC#4, 0x00009CE2#32, 0xFFFF630B#32, 0x00007E75#32) ∧
    (after (withParams 0#32 true .srcFloat
        { stateAt 0xB#4 [] with xl := 0xF0#8, xh := 0x7F#8, yh := 0x80#8, zl := 0x20#8, zh := 0x67#8 })).map
        (fun t => (t.ax, t.ay, t.az)) = some (0x00009CE2#32, 0xFFFF630B#32, 0x00007E74#32) := by decide

/-- V-CV-02 and V-CV-03. -/
theorem test_conv_gated :
    (after { stateAt 0xB#4 [] with xh := 0x7F#8, errGate := true, ax := 19#32 }).map (fun t => (t.state, t.ax)) =
      some (0xC#4, 19#32) ∧
    (after (withParams 0#32 false .exact { stateAt 0xB#4 [] with xh := 0x7F#8, errGate := true, ax := 19#32 })).map
        (fun t => (t.state, t.ax)) = some (0x7#4, 19#32) := by decide

/-- V-PACK-01, over a frame that held something else. -/
theorem test_pack_bytes :
    (after { stateAt 0xC#4 [] with
        ax := 0x00009CE2#32, ay := 0xFFFF630B#32, az := 0x00007E75#32, frame := [(3, 0x11#8), (12, 0x22#8)] }).map
        (fun t => (t.state, frameBytes t, t.frame)) = some (0xD#4, frame1, mem1) := by decide

/-- V-PACK-07: the layout of one axis. -/
theorem test_pack_layout :
    (after { stateAt 0xC#4 [] with ax := 0x12345678#32 }).map (fun t => [frameRead t 1, frameRead t 2, frameRead t 3, frameRead t 4]) =
      some [0x78#8, 0x56#8, 0x34#8, 0x12#8] := by decide

/-- V-EMIT-01. -/
theorem test_emit_bytes :
    (after { stateAt 0xD#4 [] with frame := mem1, out := [0xC0#8] }).map (fun t => (t.state, t.out, t.frame)) =
      some (0x7#4, 0xC0#8 :: frame1, mem1) := by decide

/-! ### The step around the operations -/

/-- V-ST-01, V-ST-03 and V-ST-05. -/
theorem test_status_word :
    State.reset.sifStatus = 0x000000F0#32 ∧
    ({ stateAt 0x7#4 [] with flags := { StatusFlags.reset with cfgDone := true, c1Written := true } } : State).sifStatus =
      0x0000C0F7#32 ∧
    (after { stateAt 0xE#4 [] with flags := { StatusFlags.reset with cfgDone := true } }).map
        (fun t => (t.sifStatus, t.req, t.out)) = some (0x000280F7#32, [], []) := by decide

/-- R85's examples of trace lines. -/
theorem test_trace_lines :
    (traceLine (stateAt 0x7#4 [some (ok1 0x08#8)])).map TraceLine.render = some "POLL -> ok 0x08" ∧
    (traceLine (stateAt 0x8#4 [some (ok2 0xF0#8 0x7F#8)])).map TraceLine.render = some "RD_X -> ok 0xF0, 0x7F" ∧
    (traceLine (stateAt 0x2#4 [some bad])).map TraceLine.render = some "C1_WR -> err" ∧
    (traceLine (stateAt 0xD#4 [])).map TraceLine.render = some "EMIT => A0 00 00 00 00 00 00 00 00 00 00 00 00 C0" := by decide

/-- R201: `rst` after five cycles of EMIT leaves a prefix of five bytes; after one cycle of a read, an abandoned request. -/
theorem test_reset_during :
    (after { stateAt 0xD#4 [] with rstIn := [some 5] }).map (fun t => (t.state, t.out)) =
      some (0x0#4, [0xA0#8, 0#8, 0#8, 0#8, 0#8]) ∧
    (after { stateAt 0x8#4 [] with rstIn := [some 1] }).map (fun t => (t.state, t.req, t.txnPending)) =
      some (0x0#4, [{ desc := 0x42182800#32, rsp := none }], false) := by decide

/-- R37, R194: an operation without an answer changes nothing but the draw. -/
theorem test_unanswered : after (stateAt 0x7#4 [none, some bad]) = some (stateAt 0x7#4 [some bad]) := by decide

/-- R81: after byte 13 the operation completes, and TX_IDX is 0 again. -/
theorem test_cycle_last_byte :
    (let t := cycle quietIn { stateAt 0xD#4 [] with txIdx := 13#4 }
     (t.state, t.txIdx, t.out)) = (0x7#4, 0#4, [0xC0#8]) := by decide

/-- R78.5: a response in the first cycle of an operation is ignored. -/
theorem test_cycle_early_response :
    cycle (answerIn (ok1 0x08#8)) (stateAt 0x7#4 []) = { stateAt 0x7#4 [] with txnPending := true } := by decide

/-! ### Witnesses: concrete states and operands that meet the hypotheses of an obligation together -/

/-- A state a run reaches: a poll after a CONFIG phase with a failed write of CTRL1, one frame out, one timeout. -/
def reached : State :=
  withParams 3#32 false .srcFloat
    { stateAt 0x7#4 [some (ok1 0x08#8), some (ok2 0x10#8 0x00#8), some (ok2 0xF0#8 0xFF#8), some bad] with
      idVal := 0x33#8, c1Val := 0x57#8, c4Val := 0x98#8
      ax := 0x00009CE2#32, ay := 0xFFFF630B#32, az := 0x00007E75#32, frame := mem1
      flags := { StatusFlags.reset with cfgErr := true, c1Written := true, cfgDone := true, timeout := true }
      lastErrState := 0x2#4, pollCnt := 2#32, out := frame1 }

/-- DescriptorDecodeOfEncode: a descriptor of each kind, REG and WDATA at their ends. -/
theorem witness_desc_wf :
    ({ kind := .rd1, count := 1#4, dev := 0x18#7, reg := 0x00#8, wdata := 0x00#8 } : Desc).wf = true ∧
    ({ kind := .rdn, count := 2#4, dev := 0x18#7, reg := 0xFF#8, wdata := 0x00#8 } : Desc).wf = true ∧
    ({ kind := .wr1, count := 1#4, dev := 0x18#7, reg := 0x20#8, wdata := 0xFF#8 } : Desc).wf = true := by decide

/-- DescriptorEncodeOfDecode: its clauses, besides test_desc_rd1, test_desc_rdn and test_desc_wr1 for the first one. -/
theorem witness_desc_words :
    (0xC1180F00#32).extractLsb' 30 2 = 0b11#2 ∧ (0xFFFFFFFF#32).extractLsb' 30 2 = 0b11#2 ∧
    (0x21180F00#32).extractLsb' 30 2 ≠ 0b11#2 ∧ (0x21180F00#32).getLsbD 29 = true ∧
    (0x11180F00#32).extractLsb' 30 2 ≠ 0b11#2 ∧ (0x11180F00#32).getLsbD 28 = true ∧
    (0x01980F00#32).extractLsb' 30 2 ≠ 0b11#2 ∧ (0x01980F00#32).getLsbD 23 = true := by decide

/-- StateCodesRoundTrip and StepRunsSelectedOperation: the first and the last code. -/
theorem witness_step_runs :
    (stateAt 0x0#4 []).rstNow = none ∧ decode (stateAt 0x0#4 []).state = .ok .idRd ∧
    (stateAt 0xD#4 []).rstNow = none ∧ decode (stateAt 0xD#4 []).state = .ok .emit ∧
    ({ stateAt 0x7#4 [] with rstIn := [none, some 0] } : State).rstNow = none := ⟨rfl, rfl, rfl, rfl, rfl⟩

/-- RecoveryStepGoesToPoll and the last clause of WriteMatrix: both codes; and a step from a code that is assigned. -/
theorem witness_recovery :
    (stateAt 0xE#4 []).rstNow = none ∧ (stateAt 0xE#4 []).state = 0xE#4 ∧ 0xD < (stateAt 0xE#4 []).state.toNat ∧
    (stateAt 0xF#4 []).rstNow = none ∧ (stateAt 0xF#4 []).state = 0xF#4 ∧
    (∃ t, step (stateAt 0xE#4 []) = .next t) ∧
    (stateAt 0xD#4 []).state ≠ 0xE#4 ∧ (stateAt 0xD#4 []).state ≠ 0xF#4 ∧ ∃ t, step (stateAt 0xD#4 []) = .next t :=
  ⟨rfl, rfl, by decide, rfl, rfl, ⟨_, rfl⟩, by decide, by decide, _, rfl⟩

/-- The result statements of the transport operations, FailedTransactionIsRecorded and the response clauses of WriteMatrix: an
answer `ok` and an answer `err`; POLL's ready answer and one that is not. -/
theorem witness_answered :
    (stateAt 0x0#4 [some (ok1 0x33#8)]).nextReply = some (ok1 0x33#8) ∧ (ok1 0x33#8).err = false ∧
    (stateAt 0xA#4 [some bad]).nextReply = some bad ∧ bad.err = true ∧
    (stateAt 0x7#4 [some (ok1 0x08#8)]).nextReply = some (ok1 0x08#8) ∧ (ok1 0x08#8).data.getLsbD 3 = true ∧
    (stateAt 0x7#4 [some (ok1 0xF7#8)]).nextReply = some (ok1 0xF7#8) ∧ (ok1 0xF7#8).data.getLsbD 3 = false := by decide

/-- EveryStepAnswersNext, AtMostOneRequestPerStep, FlagsDoNotSteer and StepKeepsInvariant: an answered, a waiting and a reset
step. -/
theorem witness_steps :
    (∃ t, step reached = .next t) ∧ (∃ t, step (stateAt 0x8#4 [none]) = .next t) ∧
    ∃ t, step { reached with rstIn := [some 1] } = .next t := ⟨⟨_, rfl⟩, ⟨_, rfl⟩, _, rfl⟩

/-- ConfigPhaseRequestSequences: C1_RD answered 0x57, a byte one bit off, and an error. -/
theorem witness_config :
    let s (r : Response) := stateAt 0x0#4 ([some bad, some r, some bad, some bad, some bad, some bad, some bad] ++ [])
    (∀ r, (s r).state = 0x0#4 ∧ (s r).txnPending = false ∧ (s r).rstIn = [] ∧
      (s r).replies = [some bad, some r, some bad, some bad, some bad, some bad, some bad] ++ []) ∧
    ((ok1 0x57#8).err = false ∧ (ok1 0x57#8).data.extractLsb' 0 8 = 0x57#8) ∧
    ¬ ((ok1 0x56#8).err = false ∧ (ok1 0x56#8).data.extractLsb' 0 8 = 0x57#8) ∧
    ¬ (bad.err = false ∧ bad.data.extractLsb' 0 8 = 0x57#8) :=
  ⟨fun _ => ⟨rfl, rfl, rfl, rfl⟩, by decide, by decide, by decide⟩

/-- ConfigPhaseNeverReentered: the ends of the range, and an unassigned code. -/
theorem witness_after_config :
    (∀ s ∈ [stateAt 0x7#4 [some bad], stateAt 0xD#4 [], stateAt 0xF#4 []], s.rstNow = none ∧ 0x7 ≤ s.state.toNat) ∧
    (∃ t, step (stateAt 0x7#4 [some bad]) = .next t) ∧ (∃ t, step (stateAt 0xD#4 []) = .next t) ∧
    ∃ t, step (stateAt 0xF#4 []) = .next t := ⟨by decide, ⟨_, rfl⟩, ⟨_, rfl⟩, _, rfl⟩

/-- TimeoutAtPollLimit: no poll, fewer than the limit, and the limit reached (by not-ready answers and errors); no limit. -/
theorem witness_timeout :
    (∀ rs ∈ [[], [bad], [ok1 0x00#8, bad, ok1 0xF7#8]],
      let s := withParams 3#32 true .exact (stateAt 0x7#4 (rs.map some ++ [some (ok1 0x08#8)]))
      s.state = 0x7#4 ∧ s.rstIn = [] ∧ s.pollCnt = 0#32 ∧ 0 < s.params.pollLimit.toNat ∧
      (∀ r ∈ rs, ¬ (r.err = false ∧ r.data.getLsbD 3 = true)) ∧ s.replies = rs.map some ++ [some (ok1 0x08#8)] ∧
      rs.length ≤ s.params.pollLimit.toNat) ∧
    (stateAt 0x7#4 [some bad]).params.pollLimit = 0#32 ∧ (stateAt 0x7#4 [some bad]).rstNow = none ∧
    ∃ t, step (stateAt 0x7#4 [some bad]) = .next t := ⟨by decide, by decide, by decide, _, rfl⟩

/-- PollLeftOnlyWhenReady: a step that leaves POLL; three answers that do not, one of them none at all. -/
theorem witness_poll_left :
    (∃ t, step (stateAt 0x7#4 [some (ok1 0x08#8)]) = .next t ∧ t.state ≠ 0x7#4) ∧
    (stateAt 0x7#4 [some (ok1 0x08#8)]).rstNow = none ∧ (stateAt 0x7#4 [some (ok1 0x08#8)]).state = 0x7#4 ∧
    (let s := stateAt 0x7#4 [some (ok1 0xF7#8), none, some bad]
     s.state = 0x7#4 ∧ s.rstIn = [] ∧ 3 ≤ s.replies.length ∧
     ∀ r ∈ s.replies.take 3, ∀ a, r = some a → ¬ (a.err = false ∧ a.data.getLsbD 3 = true)) := by
  refine ⟨⟨_, rfl, by decide⟩, by decide, by decide, by decide, by decide, by decide, ?_⟩
  simp [stateAt, ok1, bad]

/-- LastAxisErrorGates: only X fails, only Z fails. -/
theorem witness_axes :
    (∀ q ∈ [(bad, ok2 0xF0#8 0xFF#8, ok2 0x10#8 0x00#8), (ok2 0x00#8 0x20#8, ok2 0x00#8 0x40#8, bad)],
      let s := stateAt 0x8#4 ([some q.1, some q.2.1, some q.2.2] ++ [])
      s.state = 0x8#4 ∧ s.rstIn = [] ∧ s.replies = [some q.1, some q.2.1, some q.2.2] ++ []) := by decide

/-- AcquisitionCycleRequests: a poll that is not ready and a failed one before the ready one; none before it. -/
theorem witness_acquisition :
    (∀ ps ∈ [[], [ok1 0x00#8, bad]],
      let s := stateAt 0x7#4 (ps.map some ++ [some (ok1 0x08#8), some bad, some bad, some bad] ++ [none])
      s.state = 0x7#4 ∧ s.txnPending = false ∧ s.rstIn = [] ∧
      (∀ r ∈ ps, ¬ (r.err = false ∧ r.data.getLsbD 3 = true)) ∧
      s.replies = ps.map some ++ [some (ok1 0x08#8), some bad, some bad, some bad] ++ [none]) ∧
    (ok1 0x08#8).err = false ∧ (ok1 0x08#8).data.getLsbD 3 = true := by decide

/-- UnansweredOperationWaits: the first and the last transport operation. -/
theorem witness_unanswered :
    (descOf .idRd).isSome = true ∧ (stateAt 0x0#4 [none]).nextReply = none ∧
    (descOf .rdZ).isSome = true ∧ (stateAt 0xA#4 [none, some bad]).nextReply = none := by decide

/-- IgnoredResponseBits: two errors, two answers to a write, two bytes that differ in the ignored half only. -/
theorem witness_ignored :
    descOf .rdX = some descRdX ∧ bad.err = ({ err := true, data := 0#16 } : Response).err ∧ bad.err = true ∧
    descOf .c1Wr = some descC1Wr ∧ (ok1 0x01#8).err = (ok1 0x02#8).err ∧ descC1Wr.kind = .wr1 ∧
    descOf .poll = some descPoll ∧ (ok1 0x08#8).err = (ok2 0x08#8 0x00#8).err ∧ descPoll.kind = .rd1 ∧
    (ok1 0x08#8).data.extractLsb' 0 8 = (ok2 0x08#8 0x00#8).data.extractLsb' 0 8 := by decide

/-- WriteMatrix: each shape of operation answers a next state. -/
theorem witness_matrix :
    (∃ t, exec .rdZ (stateAt 0xA#4 [some bad]) = .next t) ∧ (∃ t, exec .conv reached = .next t) ∧
    (∃ t, exec .pack reached = .next t) ∧ ∃ t, exec .emit reached = .next t := ⟨⟨_, rfl⟩, ⟨_, rfl⟩, ⟨_, rfl⟩, _, rfl⟩

/-- GatedCycleFollowsPolicy: both policies. -/
theorem witness_gated :
    ∀ e, let s := withParams 0#32 e .exact { stateAt 0xB#4 [] with errGate := true, frame := mem1, ax := 0x00009CE2#32 }
      s.state = 0xB#4 ∧ s.rstIn = [] ∧ s.frame.wf = true ∧ s.errGate = true ∧ s.params.emitOnError = e := by decide

/-- The statements over raw counts: the two ends, zero and the two counts where the modes differ. -/
theorem witness_counts :
    ∀ r ∈ [(-2048 : Int), -1650, -1, 0, 1650, 2047], -2048 ≤ r ∧ r ≤ 2047 := by decide

/-- RawCountForms: two words that differ in the low four bits only. -/
theorem witness_raw_words : (0x7FFF#16).extractLsb' 4 12 = (0x7FF0#16).extractLsb' 4 12 := by decide

/-- RoundingIsTiesToEven: a fraction less than half a unit below 2^52, where the unit is half as large, rounds to a 53-bit
significand that is odd. -/
theorem witness_binade_edge :
    0 < 5 * 2 ^ 52 - 2 ∧ 0 < 5 ∧ roundTiesToEven false (5 * 2 ^ 52 - 2) 5 = { neg := false, man := 2 ^ 53 - 1, exp := -1 } := by
  decide

/-- RoundingIsTiesToEven: a quotient exactly half a unit away from two 53-bit numbers. -/
theorem witness_tie :
    0 < 2 ^ 53 + 1 ∧ 0 < 1 ∧ roundTiesToEven false (2 ^ 53 + 1) 1 = { neg := false, man := 2 ^ 52, exp := 1 } ∧
    roundTiesToEven true (2 ^ 53 + 3) 1 = { neg := true, man := 2 ^ 52 + 2, exp := 1 } := by decide

/-- PackResult, PackProperties and FrameWriteReadBack: a canonical frame that is not empty, two states with the same axis
values and different frames, the offsets at the ends of the clauses. -/
theorem witness_frame :
    reached.frame.wf = true ∧ ({ reached with frame := [] } : State).frame.wf = true ∧
    reached.ax = ({ reached with frame := [] } : State).ax ∧
    (∃ t, exec .pack reached = .next t) ∧ (∃ t, exec .pack { reached with frame := [] } = .next t) ∧
    ((0 : Fin 14) = 0 ∨ (0 : Fin 14) = 13) ∧ ((13 : Fin 14) = 0 ∨ (13 : Fin 14) = 13) ∧
    (1 : Fin 14) ≠ 0 ∧ (1 : Fin 14) ≠ 13 ∧ (12 : Fin 14) ≠ 0 ∧ (12 : Fin 14) ≠ 13 :=
  ⟨by decide, by decide, rfl, ⟨_, rfl⟩, ⟨_, rfl⟩, by decide, by decide, by decide, by decide, by decide, by decide⟩

/-- OutputStaysFramed: an output of one frame, at EMIT and at POLL. -/
theorem witness_framed :
    reached.rstNow = none ∧ (∃ t, step reached = .next t) ∧ Framed reached.out ∧
    ({ reached with state := 0xD#4 } : State).state = encode .emit ∧ ∃ t, step { reached with state := 0xD#4 } = .next t :=
  ⟨rfl, ⟨_, rfl⟩, ⟨[frame1], rfl, by decide⟩, rfl, _, rfl⟩

/-- CycleEmitsConvertedFrame, from a frame buffer that is not empty. -/
theorem witness_cycle :
    let s := { stateAt 0x7#4 ([some (ok1 0x08#8), some (ok2 0xF0#8 0x7F#8), some (ok2 0x00#8 0x80#8),
      some (ok2 0x20#8 0x67#8)] ++ []) with frame := mem1 }
    s.state = 0x7#4 ∧ s.rstIn = [] ∧ s.frame.wf = true ∧ (ok1 0x08#8).err = false ∧ (ok1 0x08#8).data.getLsbD 3 = true ∧
    (ok2 0xF0#8 0x7F#8).err = false ∧ (ok2 0x00#8 0x80#8).err = false ∧ (ok2 0x20#8 0x67#8).err = false ∧
    s.replies = [some (ok1 0x08#8), some (ok2 0xF0#8 0x7F#8), some (ok2 0x00#8 0x80#8), some (ok2 0x20#8 0x67#8)] ++ [] := by
  decide

/-- StickyFlagsStaySet: each sticky flag set. -/
theorem witness_sticky :
    let s := { stateAt 0x7#4 [some (ok1 0x08#8)] with
      flags := { StatusFlags.reset with cfgErr := true, acqErr := true, timeout := true, illegalState := true } }
    s.rstNow = none ∧ (∃ t, step s = .next t) ∧ s.flags.cfgErr = true ∧ s.flags.acqErr = true ∧ s.flags.timeout = true ∧
    s.flags.illegalState = true := ⟨rfl, ⟨_, rfl⟩, rfl, rfl, rfl, rfl⟩

/-- ResetCycleClearsRegisters and the premises on `rst` elsewhere. -/
theorem witness_rst : resetIn.rst = true ∧ quietIn.rst = false ∧ (answerIn bad).rst = false := by decide

/-- ResetStepMatchesCycles: its three cases, EMIT at both ends of the prefix. -/
theorem witness_reset_step :
    (∀ q ∈ [(0xB#4, 0), (0xF#4, 0), (0x0#4, 0), (0xA#4, 7), (0xD#4, 0), (0xD#4, 13)],
      let s := { stateAt q.1 [] with rstIn := [some q.2] }
      s.rstNow = some q.2 ∧ s.txIdx = 0#4 ∧
      ((q.2 = 0 ∧ s.state ≠ encode .emit) ∨ s.state.toNat ≤ 0xA ∨ (s.state = encode .emit ∧ q.2 ≤ 13))) ∧
    ∃ t, step { stateAt 0xD#4 [] with rstIn := [some 13] } = .next t := ⟨by decide, _, rfl⟩

/-- StepKeepsInvariant, CycleKeepsInvariant and the last clause of StatusWordFields: the invariant holds of a state that is not
the reset state, with every kind of register written. -/
theorem witness_inv : Inv reached := by
  constructor <;> first | decide | (unfold InAxisRange; decide)

/-- StepKeepsInvariant, its second part: the same state is an operation boundary, and a step from it answers. -/
theorem witness_boundary : AtBoundary reached ∧ ∃ t, step reached = .next t := ⟨⟨rfl, rfl⟩, _, rfl⟩

/-- HandshakeRefinesOperation: two waiting cycles, and none; an early response in the first cycle. -/
theorem witness_handshake :
    (∀ ws ∈ [[], [quietIn, quietIn]],
      (stateAt 0x8#4 []).txnPending = false ∧ (answerIn bad).rst = false ∧ ∀ p ∈ ws, p.rst = false ∧ p.rspValid = false) ∧
    decode (stateAt 0x8#4 []).state = .ok .rdX ∧ descOf .rdX = some descRdX := ⟨by decide, rfl, rfl⟩

/-- EmitCyclesRefineOperation: no cycle, 13 and 14 cycles. -/
theorem witness_emit_cycles :
    (stateAt 0xD#4 []).state = encode .emit ∧ (stateAt 0xD#4 []).txIdx = 0#4 ∧
    (∀ n ∈ [0, 13, 14], ∀ p ∈ List.replicate n quietIn, p.rst = false) ∧
    ([] : List PortIn).length = (0 : Fin 14).val ∧ (List.replicate 13 quietIn).length = (13 : Fin 14).val ∧
    (List.replicate 14 quietIn).length = 14 := by decide

/-- SingleCycleOperations: its clauses. -/
theorem witness_single_cycle :
    quietIn.rst = false ∧ (stateAt 0xB#4 []).state = encode .conv ∧ (stateAt 0xC#4 []).state = encode .pack ∧
    0xD < (stateAt 0xE#4 []).state.toNat ∧ (stateAt 0xC#4 []).state ≠ encode .emit ∧
    0xA < (stateAt 0xB#4 []).state.toNat := by decide

end Sys2Proof.Tests
end

section
/-!
SUPPORT. What each operation writes (10_state.md R42): its effect as one record update, with the operation and the error case
inside the fields.
-/
namespace Sys2Proof.Machine

/-- Where a transport operation goes with its response: fixed, except that C1_RD looks at the value read (R101) and POLL at
the data-ready bit (R120). CONV, PACK and EMIT have no response. -/
def successorOf (i : Instr) (r : Response) : Code :=
  match i with
  | .idRd => encode .c1Rd
  | .c1Rd => if mismatch r Config.ctrl1Cfg then encode .c1Wr else encode .c4Rd
  | .c1Wr => encode .c1Vr
  | .c1Vr => encode .c4Rd
  | .c4Rd => encode .c4Wr
  | .c4Wr => encode .c4Vr
  | .c4Vr => encode .poll
  | .poll => if pollReady r then encode .rdX else encode .poll
  | .rdX  => encode .rdY
  | .rdY  => encode .rdZ
  | .rdZ  => encode .conv
  | .conv => encode .conv
  | .pack => encode .pack
  | .emit => encode .emit

/-- The flags of R31 after a transport operation, run in `s`, with its response (R31, R180). -/
def flagsAfter (i : Instr) (r : Response) (s : State) : StatusFlags :=
  { cfgErr       := s.flags.cfgErr || (r.err && decide ((encode i).toNat ≤ 0x6))
    acqErr       := s.flags.acqErr || (r.err && decide (0x7 ≤ (encode i).toNat))
    idMismatch   := if i = .idRd then mismatch r Config.idExpected else s.flags.idMismatch
    c1Written    := s.flags.c1Written || decide (i = .c1Wr)
    c1Mismatch   := if i = .c1Vr then mismatch r Config.ctrl1Cfg else s.flags.c1Mismatch
    c4Mismatch   := if i = .c4Vr then mismatch r Config.ctrl4Cfg else s.flags.c4Mismatch
    cfgDone      := s.flags.cfgDone || decide (i = .c4Vr)
    timeout      := s.flags.timeout || (decide (i = .poll) && !pollReady r && decide (AtPollLimit s))
    illegalState := s.flags.illegalState }

/-- The rows of R42 for the transport operations as one record update: which register an operation writes, and whether on a
successful, a failed or on any transaction. -/
theorem finishOf_eq {i : Instr} {d : Desc} (h : descOf i = some d) (r : Response) (s : State) : finishOf i r s = { s with
    idVal := if r.err = true ∨ i ≠ .idRd then s.idVal else data0 r
    c1Val := if r.err = true ∨ (i ≠ .c1Rd ∧ i ≠ .c1Vr) then s.c1Val else data0 r
    c4Val := if r.err = true ∨ (i ≠ .c4Rd ∧ i ≠ .c4Vr) then s.c4Val else data0 r
    stVal := if r.err = true ∨ i ≠ .poll then s.stVal else data0 r
    xl := if r.err = true ∨ i ≠ .rdX then s.xl else data0 r
    xh := if r.err = true ∨ i ≠ .rdX then s.xh else data1 r
    yl := if r.err = true ∨ i ≠ .rdY then s.yl else data0 r
    yh := if r.err = true ∨ i ≠ .rdY then s.yh else data1 r
    zl := if r.err = true ∨ i ≠ .rdZ then s.zl else data0 r
    zh := if r.err = true ∨ i ≠ .rdZ then s.zh else data1 r
    errGate := if i = .rdX ∨ i = .rdY ∨ i = .rdZ then r.err else s.errGate
    flags := flagsAfter i r s
    lastErrState := if r.err then encode i else s.lastErrState
    pollCnt :=
      if i = .poll then if pollReady r = true ∨ AtPollLimit s then 0#32 else s.pollCnt + 1#32 else s.pollCnt
    state := successorOf i r } := by
  cases i <;> cases h <;>
    simp [finishOf, flagsAfter, successorOf, finishIdRd_eq, finishC1Rd_eq, finishC1Wr_eq, finishC1Vr_eq, finishC4Rd_eq,
      finishC4Wr_eq, finishC4Vr_eq, finishPoll_eq, finishRdX_eq, finishRdY_eq, finishRdZ_eq]

/-- CONV writes the axis registers together, only with ERR_GATE = 0 (R140, R141). -/
theorem effectConv_eq (s : State) : effectConv s = { s with
    ax := if s.errGate then s.ax else convAxis s.params.convMode s.xh s.xl
    ay := if s.errGate then s.ay else convAxis s.params.convMode s.yh s.yl
    az := if s.errGate then s.az else convAxis s.params.convMode s.zh s.zl
    state := if s.errGate && !s.params.emitOnError then 0x7#4 else 0xC#4 } := by
  cases hg : s.errGate <;> cases he : s.params.emitOnError <;> simp [effectConv, hg, he]

theorem effectEmit_eq (s : State) : effectEmit s = { s with
    out := s.out ++ frameBytes s
    txIdx := 0#4
    state := 0x7#4 } := rfl

/-- The hardwired bytes of the frame are the same in every state (R29). -/
@[simp] theorem frameRead_header (s : State) : frameRead s 0 = Config.frameHdr := rfl
@[simp] theorem frameRead_footer (s : State) : frameRead s 13 = Config.frameFtr := rfl

end Sys2Proof.Machine
end

section
/-!
PROOFS. The write matrix (R42) and the frame buffer's writes (R29, R53).
-/
namespace Sys2Proof.Machine

/-- Only the 14 assigned codes select an operation (R70). -/
theorem decode_ok_le {c : Code} {i : Instr} (h : decode c = .ok i) : c.toNat ≤ 0xD := by
  rw [decode_eq_ok h]
  cases i <;> decide

/-- Settles O31: the rows of R42 are read off each operation's effect as one record update. What is left of an answered
transport operation is about codes, of which it has one up to 0xA. -/
theorem writeMatrix : Obligations.WriteMatrix := by
  unfold Obligations.WriteMatrix
  refine ⟨fun i s t h => ?operation, fun s t hrst hcode h => ?recovery⟩
  case operation =>
    rcases exec_inv h with ⟨d, hd, ⟨-, rfl⟩ | ⟨r, hr, rfl⟩⟩ | ⟨rfl, rfl⟩ | ⟨rfl, rfl⟩ | ⟨rfl, rfl⟩
    · simp [frameRead]
    · have hi := encode_le_of_descOf hd
      simp +contextual [finishOf_eq hd, flagsAfter, frameRead, hr]
      omega
    · simp +contextual [effectConv_eq, frameRead]
    · simp [effectPack_eq]
    · simp [effectEmit_eq, frameRead]
  case recovery =>
    rcases step_cases h with ⟨k, hk, -⟩ | ⟨-, i, hi, -⟩ | ⟨-, e, -, rfl⟩
    · simp [hrst] at hk
    · exact absurd (decode_ok_le hi) (by omega)
    · rfl

/-- Settles O45, by what a frame write does to every byte of a canonical buffer. -/
theorem frameWriteReadBack : Obligations.FrameWriteReadBack := by
  intro s o p v hwf
  refine ⟨fun ho => if_pos ho, fun h0 h13 => ?_⟩
  simp [frameRead_frameWrite o p v hwf, h0, h13]

end Sys2Proof.Machine
end

section
/-!
PROOFS. The sticky flags stay set (R32): every operation keeps them, and recovery adds to them.
-/
namespace Sys2Proof.Machine

/-- The sticky flags that are set in `f` are set in `g` (R32). -/
structure StickyKept (f g : StatusFlags) : Prop where
  cfgErr       : f.cfgErr = true → g.cfgErr = true
  acqErr       : f.acqErr = true → g.acqErr = true
  timeout      : f.timeout = true → g.timeout = true
  illegalState : f.illegalState = true → g.illegalState = true

theorem stickyKept_refl (f : StatusFlags) : StickyKept f f := ⟨id, id, id, id⟩

theorem finishOf_stickyKept {i : Instr} {d : Desc} (h : descOf i = some d) (r : Response) (s : State) :
    StickyKept s.flags (finishOf i r s).flags := by
  rw [finishOf_eq h]
  constructor <;> intro hs <;> simp [flagsAfter, hs]

theorem exec_stickyKept {i : Instr} {s t : State} (h : exec i s = .next t) : StickyKept s.flags t.flags := by
  rcases exec_inv h with ⟨d, hd, ⟨-, rfl⟩ | ⟨r, -, rfl⟩⟩ | ⟨-, rfl⟩ | ⟨-, rfl⟩ | ⟨-, rfl⟩
  · rw [State.popReply_flags]; exact stickyKept_refl s.flags
  · simpa using finishOf_stickyKept hd r (s.popReply.logTxn d r)
  · rw [effectConv_eq]; exact stickyKept_refl s.flags
  · rw [effectPack_eq]; exact stickyKept_refl s.flags
  · exact stickyKept_refl s.flags

theorem recover_stickyKept (s : State) : StickyKept s.flags (recover s).flags := ⟨id, id, id, fun _ => rfl⟩

/-- Settles O51: of the kinds of step only a reset clears a sticky flag. -/
theorem stickyFlagsStaySet : Obligations.StickyFlagsStaySet := by
  intro s t hrst h
  have hkept : StickyKept s.flags t.flags := by
    rcases step_cases h with ⟨k, hk, -⟩ | ⟨-, i, -, hx⟩ | ⟨-, e, -, rfl⟩
    · simp [hrst] at hk
    · simpa using exec_stickyKept hx
    · exact recover_stickyKept s.popRst
  exact ⟨hkept.cfgErr, hkept.acqErr, hkept.timeout, hkept.illegalState⟩

end Sys2Proof.Machine
end

section
/-!
PROOFS. The flags and LAST_ERR_STATE steer nothing (R31, R33): changing them commutes with every operation.
-/
namespace Sys2Proof.Machine

/-- The state with other flags and another LAST_ERR_STATE. -/
def State.withFlags (f : StatusFlags) (c : Code) (s : State) : State := { s with flags := f, lastErrState := c }

section
variable (f g : StatusFlags) (c e : Code) (s : State)

variable {f c s} in
/-- Putting back a state's own flags and LAST_ERR_STATE undoes a change of them. -/
theorem State.withFlags_restore {t : State} (h : t = s.withFlags f c) : t.withFlags s.flags s.lastErrState = s := by
  rw [h]
  rfl

@[simp] theorem State.rstNow_withFlags : (s.withFlags f c).rstNow = s.rstNow := rfl

@[simp] theorem State.withFlags_state : (s.withFlags f c).state = s.state := rfl

theorem State.popRst_withFlags : (s.withFlags f c).popRst = s.popRst.withFlags f c := rfl

theorem State.popReply_withFlags : (s.withFlags f c).popReply = s.popReply.withFlags f c := by
  cases h : s.replies <;> simp [State.popReply, State.withFlags, h]

theorem State.partialOp_withFlags (k : Nat) : (s.withFlags f c).partialOp k = (s.partialOp k).withFlags f c := by
  cases hd : decode s.state with
  | error _ => simp only [State.partialOp, State.withFlags_state, hd]
  | ok i =>
    cases ht : descOf i <;> simp only [State.partialOp, State.withFlags_state, hd, ht] <;> split <;> rfl

/-- A reset overwrites the flags, and what it keeps of the operation in progress does not depend on them. -/
theorem State.resetDuring_withFlags (k : Nat) : (s.withFlags f c).resetDuring k = s.resetDuring k := by
  rw [State.resetDuring, State.partialOp_withFlags]
  rfl

/-- The completion of a transport operation reads no flag and not LAST_ERR_STATE, except to write them again. -/
theorem finishOf_withFlags {i : Instr} {d : Desc} (h : descOf i = some d) (r : Response) :
    (finishOf i r (s.withFlags f c)).withFlags g e = (finishOf i r s).withFlags g e := by
  rw [finishOf_eq h, finishOf_eq h]
  rfl

theorem effectConv_withFlags : effectConv (s.withFlags f c) = (effectConv s).withFlags f c := by
  rw [effectConv_eq, effectConv_eq]
  rfl

theorem frameWrite_withFlags (o : Fin 14) (v : Byte) :
    frameWrite o v (s.withFlags f c) = (frameWrite o v s).withFlags f c := by
  unfold frameWrite
  split <;> rfl

theorem frameWrites_withFlags (ws : List (Fin 14 × Byte)) :
    frameWrites ws (s.withFlags f c) = (frameWrites ws s).withFlags f c := by
  induction ws generalizing s with
  | nil => rfl
  | cons w ws ih => rw [frameWrites, frameWrite_withFlags, ih, frameWrites]

theorem effectPack_withFlags : effectPack (s.withFlags f c) = (effectPack s).withFlags f c := by
  rw [effectPack, frameWrites_withFlags]
  rfl

theorem effectEmit_withFlags : effectEmit (s.withFlags f c) = (effectEmit s).withFlags f c := rfl

theorem recover_withFlags : (recover (s.withFlags f c)).withFlags g e = (recover s).withFlags g e := rfl

end

/-- An operation from a state with other flags and another LAST_ERR_STATE ends in the same state but for these. -/
theorem exec_withFlags (f : StatusFlags) (c : Code) {i : Instr} {s t : State} (h : exec i s = .next t) :
    ∃ t', exec i (s.withFlags f c) = .next t' ∧ t'.withFlags t.flags t.lastErrState = t := by
  rcases exec_inv h with ⟨d, hd, ⟨hr, rfl⟩ | ⟨r, hr, rfl⟩⟩ | ⟨rfl, rfl⟩ | ⟨rfl, rfl⟩ | ⟨rfl, rfl⟩
  · exact ⟨_, (exec_transport hd _).trans (transport_waiting d _ hr), State.withFlags_restore (State.popReply_withFlags f c s)⟩
  · refine ⟨_, (exec_transport hd _).trans (transport_answered d _ hr), ?_⟩
    rw [State.popReply_withFlags]
    exact finishOf_withFlags f _ c _ (s.popReply.logTxn d r) hd r
  · exact ⟨_, rfl, State.withFlags_restore (effectConv_withFlags f c s)⟩
  · exact ⟨_, rfl, State.withFlags_restore (effectPack_withFlags f c s)⟩
  · exact ⟨_, rfl, State.withFlags_restore (effectEmit_withFlags f c s)⟩

/-- Settles O50: in each of the three kinds of step, reset, operation and recovery, the flags go into the flags only. -/
theorem flagsDoNotSteer : Obligations.FlagsDoNotSteer := by
  intro s t f c h
  change ∃ t', step (s.withFlags f c) = .next t' ∧ t'.withFlags t.flags t.lastErrState = t
  simp only [step, State.rstNow_withFlags, State.withFlags_state, State.popRst_withFlags]
  rcases step_cases h with ⟨k, hk, rfl⟩ | ⟨hn, i, hi, hx⟩ | ⟨hn, e, he, rfl⟩
  · simp only [hk, State.resetDuring_withFlags]
    exact ⟨_, rfl, rfl⟩
  · simp only [hn, hi]
    exact exec_withFlags f c hx
  · simp only [hn, he]
    exact ⟨_, rfl, recover_withFlags f _ c _ s.popRst⟩

end Sys2Proof.Machine
end

section
/-!
PROOFS. The status word (R35).
-/
namespace Sys2Proof.Machine

theorem getLsbD_bit (b : Bool) (j : Nat) : (bit b).getLsbD j = (decide (j = 0) && b) := by
  simp [bit]

/-- The layout of SIF_STATUS: the two codes, then one bit a flag from ERR_GATE up, then zeros (R35). -/
theorem State.sifStatus_getLsbD (s : State) (j : Nat) : s.sifStatus.getLsbD j =
    if j < 4 then s.state.getLsbD j
    else if j < 8 then s.lastErrState.getLsbD (j - 4)
    else [s.errGate, s.flags.acqErr, s.flags.cfgErr, s.flags.idMismatch, s.flags.c1Mismatch, s.flags.c4Mismatch,
      s.flags.c1Written, s.flags.cfgDone, s.flags.timeout, s.flags.illegalState].getD (j - 8) false := by
  unfold State.sifStatus
  change BitVec.getLsbD (w := 14 + 1 + 1 + 1 + 1 + 1 + 1 + 1 + 1 + 1 + 1 + 4 + 4) _ j = _
  simp only [BitVec.getLsbD_append, getLsbD_bit]
  by_cases hj : j < 18
  · interval_cases j <;> simp
  · obtain ⟨k, rfl⟩ := Nat.exists_eq_add_of_le' (not_lt.mp hj)
    simp [Nat.add_sub_assoc]

/-- Settles O49: every field is read off the layout; the legal codes are the invariant's. -/
theorem statusWordFields : Obligations.StatusWordFields := by
  intro s
  have hstate : s.sifStatus.extractLsb' 0 4 = s.state := by
    ext j hj
    simp [State.sifStatus_getLsbD, hj]
  have hlast : s.sifStatus.extractLsb' 4 4 = s.lastErrState := by
    ext j hj
    have h8 : 4 + j < 8 := by omega
    simp [State.sifStatus_getLsbD, hj, h8]
  have hzero : s.sifStatus.extractLsb' 18 14 = 0#14 := by
    ext j hj
    simp [State.sifStatus_getLsbD, Nat.add_comm 18 j]
  refine ⟨hstate, hlast, ?_, ?_, ?_, ?_, ?_, ?_, ?_, ?_, ?_, ?_, hzero, by decide, fun _ => rfl, fun hinv => ?codes⟩
  case codes => rw [hstate, hlast]; exact ⟨hinv.assigned, hinv.lastErr⟩
  all_goals rw [State.sifStatus_getLsbD]; rfl

end Sys2Proof.Machine
end

section
/-!
PROOFS. One step adds at most one request to REQ, one of R74's table (R55, R63, R79): an answered transport operation logs its
own, and a reset leaves the outstanding one as abandoned.
-/
namespace Sys2Proof.Machine

/-- Every operation's descriptor is a row of R74's table. -/
theorem encodeDesc_mem_issuedWords {i : Instr} {d : Desc} (h : descOf i = some d) : encodeDesc d ∈ issuedWords := by
  cases i <;> cases h <;> decide

/-- REQ has grown by at most one request, whose descriptor is in use. -/
def ReqGrowsByOne (s t : State) : Prop :=
  t.req = s.req ∨ ∃ q, t.req = s.req ++ [q] ∧ q.desc ∈ issuedWords

theorem exec_reqGrowsByOne {i : Instr} {s t : State} (h : exec i s = .next t) : ReqGrowsByOne s t := by
  rcases exec_inv h with ⟨d, hd, ⟨-, rfl⟩ | ⟨r, -, rfl⟩⟩ | ⟨-, rfl⟩ | ⟨-, rfl⟩ | ⟨-, rfl⟩
  · exact .inl s.popReply_req
  · exact .inr ⟨{ desc := encodeDesc d, rsp := some r }, by simp, encodeDesc_mem_issuedWords hd⟩
  · exact .inl (by rw [effectConv_eq])
  · exact .inl (by rw [effectPack_eq])
  · exact .inl rfl

/-- At most one request is outstanding, the one of the operation that the state code selects (R79). -/
theorem State.outstanding_cases (s : State) :
    s.outstanding = [] ∨ ∃ i d, descOf i = some d ∧ s.outstanding = [{ desc := encodeDesc d, rsp := none }] := by
  unfold State.outstanding
  split
  next i _ _ =>
    cases hd : descOf i with
    | none => exact .inl rfl
    | some d => exact .inr ⟨i, d, hd, rfl⟩
  next => exact .inl rfl

/-- Until it completes, an operation logs nothing in REQ. -/
theorem State.partialOp_req (k : Nat) (s : State) : (s.partialOp k).req = s.req := by
  unfold State.partialOp
  split
  · rfl
  · split <;> split <;> rfl

theorem State.resetDuring_reqGrowsByOne (k : Nat) (s : State) : ReqGrowsByOne s (s.resetDuring k) := by
  have hreq : (s.resetDuring k).req = s.req ++ (s.partialOp k).outstanding :=
    congrArg (· ++ (s.partialOp k).outstanding) (s.partialOp_req k)
  rcases (s.partialOp k).outstanding_cases with h | ⟨i, d, hd, h⟩
  · exact .inl (by rw [hreq, h, List.append_nil])
  · exact .inr ⟨_, by rw [hreq, h], encodeDesc_mem_issuedWords hd⟩

/-- Settles O30, by the three kinds of step: reset, operation, recovery. -/
theorem atMostOneRequestPerStep : Obligations.AtMostOneRequestPerStep := by
  intro s t h
  change ReqGrowsByOne s.popRst t
  rcases step_cases h with ⟨k, -, rfl⟩ | ⟨-, i, -, hx⟩ | ⟨-, e, -, rfl⟩
  · exact s.popRst.resetDuring_reqGrowsByOne k
  · exact exec_reqGrowsByOne hx
  · exact .inl rfl

end Sys2Proof.Machine
end

section
/-!
PROOFS. Runs in which every step completes one operation, put together from one lemma per kind of operation.
-/
namespace Sys2Proof.Machine

@[simp] theorem decode_encode (i : Instr) : decode (encode i) = .ok i := by
  cases i <;> rfl

/-- From `s` every step completes an operation: the steps complete `ops`, in order, and lead to `t`. -/
inductive Completes : State → List Instr → State → Prop where
  | nil (s : State) : Completes s [] s
  | cons {s u t : State} {l : TraceLine} {ops : List Instr} (hline : traceLine s = some l) (hstep : step s = .next u)
      (hrest : Completes u ops t) : Completes s (l.op :: ops) t

theorem completes_append {s u t : State} {ops ops' : List Instr} (h : Completes s ops u) (h' : Completes u ops' t) :
    Completes s (ops ++ ops') t := by
  induction h with
  | nil => exact h'
  | cons hline hstep _ ih => exact .cons hline hstep (ih h')

theorem run_of_completes {s t : State} {ops : List Instr} (h : Completes s ops t) : run ops.length s = .next t := by
  induction h with
  | nil s => exact run_zero s
  | cons _ hstep _ ih => rw [List.length_cons, run_succ hstep, ih]

theorem traceRun_of_completes {s t : State} {ops : List Instr} (h : Completes s ops t) :
    (traceRun ops.length s).map TraceLine.op = ops := by
  induction h with
  | nil => rfl
  | cons hline hstep _ ih => simp [traceRun_succ hstep, hline, ih]

/-- The state after a transport operation whose answer was there. -/
def State.answered (i : Instr) (d : Desc) (r : Response) (s : State) : State := finishOf i r (s.popReply.logTxn d r)

/-- A transport operation whose answer is there. -/
theorem completes_transport {s : State} {i : Instr} {d : Desc} {r : Response} (hr : s.rstIn = []) (hc : s.state = encode i)
    (hd : descOf i = some d) (hq : s.nextReply = some r) : Completes s [i] (s.answered i d r) := by
  have hdec : decode s.state = .ok i := by rw [hc, decode_encode]
  have hline : traceLine s = some { op := i, rsp := some r, emitted := [] } := by
    simp [traceLine, State.rstNow, hr, hdec, hd, hq]
  exact .cons hline (by rw [step_of_decode hr hdec, exec_transport hd, transport_answered d _ hq, State.answered]) (.nil _)

/-- CONV, PACK or EMIT. -/
theorem completes_silent {s u : State} {i : Instr} (hr : s.rstIn = []) (hc : s.state = encode i) (hd : descOf i = none)
    (hx : exec i s = .next u) : Completes s [i] u := by
  have hdec : decode s.state = .ok i := by rw [hc, decode_encode]
  have hline : traceLine s = some { op := i, rsp := none, emitted := if i = .emit then frameBytes s else [] } := by
    simp [traceLine, State.rstNow, hr, hdec, hd]
  exact .cons hline (by rw [step_of_decode hr hdec, hx]) (.nil _)

end Sys2Proof.Machine
end

section
/-!
PROOFS. The acquisition cycle emits the frame of the converted words (R68, R82, R86).
-/
namespace Sys2Proof.Machine

/-- The two bytes of an axis read, put together again, are the response's word (R52, R75). -/
theorem axisWord_data (r : Response) : axisWord (data1 r) (data0 r) = r.data :=
  (BitVec.extractLsb'_append_extractLsb'_eq_extractLsb' rfl).trans BitVec.extractLsb'_eq_self

/-- PACK lays the three axis registers out as R82 says. -/
theorem frameBytes_effectPack {s : State} (h : s.frame.wf = true) :
    frameBytes (effectPack s) = frameOf s.ax s.ay s.az := by
  have hread (p : Fin 14) : frameRead (effectPack s) p = frameRead (frameWrites (packWrites s.ax s.ay s.az) s) p := rfl
  simp only [frameBytes, hread, frameRead_frameWrites s _ _ h]
  rfl

/-- The first part of a cycle: a ready POLL and three good axis reads leave the three words in the axis bytes and ERR_GATE
clear (R120, R124 to R126). -/
theorem completes_acquire {s : State} {p x y z : Response} {rest : List (Option Response)} (hr : s.rstIn = [])
    (hc : s.state = encode .poll) (hp : pollReady p = true) (hx : x.err = false) (hy : y.err = false) (hz : z.err = false)
    (hq : s.replies = [some p, some x, some y, some z] ++ rest) :
    ∃ u, Completes s [.poll, .rdX, .rdY, .rdZ] u ∧ u.rstIn = [] ∧ u.state = encode .conv ∧ u.errGate = false ∧
      axisWord u.xh u.xl = x.data ∧ axisWord u.yh u.yl = y.data ∧ axisWord u.zh u.zl = z.data ∧
      u.frame = s.frame ∧ u.params = s.params ∧ u.out = s.out := by
  refine ⟨s.answered .poll descPoll p |>.answered .rdX descRdX x |>.answered .rdY descRdY y |>.answered .rdZ descRdZ z,
    ?run, ?regs⟩
  case run =>
    refine completes_append (completes_transport hr hc rfl ?_) <| completes_append (completes_transport ?_ ?_ rfl ?_) <|
      completes_append (completes_transport ?_ ?_ rfl ?_) (completes_transport ?_ ?_ rfl ?_)
    all_goals simp [State.answered, State.nextReply, finishOf, finishPoll_eq, finishRdX_eq, finishRdY_eq, hr, hp, hq]
  case regs =>
    simp [State.answered, finishOf, finishPoll_eq, finishRdX_eq, finishRdY_eq, finishRdZ_eq, hr, hx, hy, hz, axisWord_data]

/-- The second part, when no axis read has failed: CONV, PACK and EMIT (R140, R160, R162). -/
theorem completes_convPackEmit {s : State} (hr : s.rstIn = []) (hc : s.state = encode .conv) (hg : s.errGate = false)
    (hwf : s.frame.wf = true) :
    ∃ t, Completes s [.conv, .pack, .emit] t ∧ t.state = encode .poll ∧
      t.out = s.out ++ frameOf (convAxis s.params.convMode s.xh s.xl) (convAxis s.params.convMode s.yh s.yl)
        (convAxis s.params.convMode s.zh s.zl) := by
  refine ⟨effectEmit (effectPack (effectConv s)), ?run, rfl, ?out⟩
  case run =>
    refine completes_append (completes_silent hr hc rfl rfl) <|
      completes_append (completes_silent ?_ ?_ rfl rfl) (completes_silent ?_ ?_ rfl rfl)
    all_goals simp [effectPack_eq, effectConv_eq, hr, hg]
  case out =>
    have hframe := frameBytes_effectPack (s := effectConv s) (by rw [effectConv_eq]; exact hwf)
    rw [effectEmit_eq, hframe]
    simp [effectPack_eq, effectConv_eq, hg]

/-- Settles O48: the two parts of the cycle, one after the other. -/
theorem cycleEmitsConvertedFrame : Obligations.CycleEmitsConvertedFrame := by
  intro s p x y z rest hc hr hwf hperr hpbit hx hy hz hq
  obtain ⟨u, hacq, hur, huc, hug, hux, huy, huz, hframe, hparams, hout⟩ :=
    completes_acquire hr hc ((pollReady_iff p).2 ⟨hperr, hpbit⟩) hx hy hz hq
  obtain ⟨t, hrest, htc, htout⟩ := completes_convPackEmit hur huc hug (by rw [hframe, hwf])
  have hops : cycleOps 1 true = [.poll, .rdX, .rdY, .rdZ] ++ [.conv, .pack, .emit] := rfl
  have hcycle : Completes s (cycleOps 1 true) t := hops ▸ completes_append hacq hrest
  refine ⟨t, run_of_completes hcycle, htc, traceRun_of_completes hcycle, ?_⟩
  rw [htout, hout, hparams, convAxis, convAxis, convAxis, hux, huy, huz]

end Sys2Proof.Machine
end

section
/-!
PROOFS. Format T (30_encoding.md R72, R73): a word decodes exactly when it is the concatenation of the fields of a well-formed
descriptor.
-/
namespace Sys2Proof

/-- Two adjacent fields of a word, compared together or one by one. -/
theorem extractLsb'_eq_append_iff {m n l : Nat} (w : BitVec l) (k : Nat) (x : BitVec m) (y : BitVec n) :
    w.extractLsb' k (m + n) = x ++ y ↔ w.extractLsb' (k + n) m = x ∧ w.extractLsb' k n = y := by
  rw [← BitVec.extractLsb'_append_extractLsb'_eq_extractLsb' (x := w) (Eq.refl (k + n))]
  constructor
  · intro h
    have hhigh := congrArg (BitVec.extractLsb' n m) h
    have hlow := congrArg (BitVec.extractLsb' 0 n) h
    simp only [BitVec.extractLsb'_append_eq_left, BitVec.extractLsb'_append_eq_right] at hhigh hlow
    exact ⟨hhigh, hlow⟩
  · rintro ⟨rfl, rfl⟩
    rfl

/-- A word is the encoding of a descriptor when it agrees with it in every field and its reserved bits are 0 (R72). -/
theorem eq_encodeDesc_iff (w : Word32) (d : Desc) : w = encodeDesc d ↔
    w.extractLsb' 30 2 = encodeKind d.kind ∧ w.extractLsb' 28 2 = 0#2 ∧ w.extractLsb' 24 4 = d.count ∧
      w.extractLsb' 23 1 = 0#1 ∧ w.extractLsb' 16 7 = d.dev ∧ w.extractLsb' 8 8 = d.reg ∧ w.extractLsb' 0 8 = d.wdata := by
  have hw : w = w.extractLsb' 0 (2 + 2 + 4 + 1 + 7 + 8 + 8) := BitVec.extractLsb'_eq_self.symm
  calc w = encodeDesc d
    _ ↔ w.extractLsb' 0 (2 + 2 + 4 + 1 + 7 + 8 + 8) =
        encodeKind d.kind ++ 0#2 ++ d.count ++ 0#1 ++ d.dev ++ d.reg ++ d.wdata := by rw [← hw]; rfl
    _ ↔ _ := by simp only [↓extractLsb'_eq_append_iff, and_assoc, Nat.zero_add, Nat.reduceAdd]

theorem decodeKind_encodeKind (k : Kind) : decodeKind (encodeKind k) = some k := by
  cases k <;> rfl

/-- The KIND field of R73 has four values, of which 11 is no kind. -/
theorem decodeKind_cases (b : BitVec 2) : b = 0b11#2 ∨ ∃ k, b = encodeKind k := by
  obtain ⟨v, rfl⟩ : ∃ v : Fin 4, b = BitVec.ofFin v := ⟨b.toFin, rfl⟩
  fin_cases v
  · exact .inr ⟨.rd1, rfl⟩
  · exact .inr ⟨.rdn, rfl⟩
  · exact .inr ⟨.wr1, rfl⟩
  · exact .inl rfl

/-- The fields that a word of kind `k` has, its reserved bits left out (R72). -/
def fieldsOf (k : Kind) (w : Word32) : Desc :=
  { kind := k, count := w.extractLsb' 24 4, dev := w.extractLsb' 16 7, reg := w.extractLsb' 8 8, wdata := w.extractLsb' 0 8 }

theorem decodeDesc_of_kind {w : Word32} {k : Kind} (h : w.extractLsb' 30 2 = encodeKind k) : decodeDesc w =
    if w.extractLsb' 28 2 ≠ 0#2 ∨ w.extractLsb' 23 1 ≠ 0#1 then .error .reservedBits
    else if (fieldsOf k w).wf then .ok (fieldsOf k w) else .error .illFormed := by
  rw [decodeDesc, h, decodeKind_encodeKind]
  rfl

theorem decodeDesc_of_reservedKind {w : Word32} (h : w.extractLsb' 30 2 = 0b11#2) :
    decodeDesc w = .error .reservedKind := by
  rw [decodeDesc, h]
  rfl

/-- The decoder is the inverse of the encoder on the well-formed descriptors, and accepts nothing else. -/
theorem decodeDesc_eq_ok_iff (w : Word32) (d : Desc) :
    decodeDesc w = .ok d ↔ d.wf = true ∧ encodeDesc d = w := by
  rw [eq_comm (b := w), eq_encodeDesc_iff]
  constructor
  · intro h
    rcases decodeKind_cases (w.extractLsb' 30 2) with hk | ⟨k, hk⟩
    · simp [decodeDesc_of_reservedKind hk] at h
    · rw [decodeDesc_of_kind hk] at h
      split at h
      · cases h
      next hres =>
        split at h
        next hwf =>
          cases h
          push Not at hres
          exact ⟨hwf, hk, hres.1, rfl, hres.2, rfl, rfl, rfl⟩
        next => cases h
  · rintro ⟨hwf, hkind, h28, hcount, h23, hdev, hreg, hwdata⟩
    have hd : fieldsOf d.kind w = d := by rw [fieldsOf, hcount, hdev, hreg, hwdata]
    rw [decodeDesc_of_kind hkind, hd]
    simp [h28, h23, hwf]

theorem getLsbD_eq_false_of_extractLsb'_eq_zero {w : Word32} {k n i : Nat} (h : w.extractLsb' k n = 0#n) (hi : i < n) :
    w.getLsbD (k + i) = false := by
  simpa [hi] using congrArg (·.getLsbD i) h

/-- Settles O4: the encoding of a well-formed descriptor is a word that decodes to it. -/
theorem descriptorDecodeOfEncode : Obligations.DescriptorDecodeOfEncode :=
  fun d hwf => (decodeDesc_eq_ok_iff (encodeDesc d) d).2 ⟨hwf, rfl⟩

/-- Settles O5: the two named rejections are the decoder's first two branches. -/
theorem descriptorEncodeOfDecode : Obligations.DescriptorEncodeOfDecode := by
  intro w
  refine ⟨fun d => (decodeDesc_eq_ok_iff w d).1, decodeDesc_of_reservedKind, fun hkind hbits => ?_⟩
  rcases decodeKind_cases (w.extractLsb' 30 2) with hk | ⟨k, hk⟩
  · exact absurd hk hkind
  · rw [decodeDesc_of_kind hk, if_pos]
    by_contra! hzero
    have h28 : w.getLsbD 28 = false := getLsbD_eq_false_of_extractLsb'_eq_zero hzero.1 (i := 0) (by decide)
    have h29 : w.getLsbD 29 = false := getLsbD_eq_false_of_extractLsb'_eq_zero hzero.1 (i := 1) (by decide)
    have h23 : w.getLsbD 23 = false := getLsbD_eq_false_of_extractLsb'_eq_zero hzero.2 (i := 0) (by decide)
    rw [h29, h28, h23] at hbits
    cases hbits

end Sys2Proof
end

section
/-!
PROOFS. State codes and operations determine each other (R70, R76), each transport operation has its descriptor (R74), and a
step runs the operation of its code.
-/
namespace Sys2Proof.Machine

/-- Settles O1, row by row of R70's table. -/
theorem stateCodesDecodeAsTabled : Obligations.StateCodesDecodeAsTabled :=
  ⟨decode_0, decode_1, decode_2, decode_3, decode_4, decode_5, decode_6, decode_7, decode_8, decode_9, decode_A, decode_B,
    decode_C, decode_D, decode_E, decode_F⟩

/-- Settles O2, by the decoder's value on each code. -/
theorem stateCodesRoundTrip : Obligations.StateCodesRoundTrip :=
  ⟨decode_encode, fun _ _ h => (decode_eq_ok h).symm⟩

/-- Settles O3, row by row of R74's table. -/
theorem operationsIssueTheirDescriptors : Obligations.OperationsIssueTheirDescriptors := by
  refine ⟨fun row hrow => ?_, rfl, rfl, rfl⟩
  fin_cases hrow <;> exact ⟨rfl, rfl⟩

/-- Settles O6: of the step's branches only the operation's is left. -/
theorem stepRunsSelectedOperation : Obligations.StepRunsSelectedOperation := by
  intro s i hrst hdec
  simp only [step, hrst, hdec, State.popRst]

end Sys2Proof.Machine
end

section
/-!
PROOFS. What a response carries beyond its kind is ignored (R75).
-/
namespace Sys2Proof.Machine

/-- The state with another request trace. -/
def State.withReq (q : List Txn) (s : State) : State := { s with req := q }

/-- The completion of a transport operation does not read REQ and leaves it alone. -/
theorem finishOf_withReq {i : Instr} {d : Desc} (h : descOf i = some d) (r : Response) (q : List Txn) (s : State) :
    finishOf i r (s.withReq q) = (finishOf i r s).withReq q := by
  rw [finishOf_eq h, finishOf_eq h]
  rfl

theorem mismatch_of_err {r : Response} (h : r.err = true) (v : Byte) : mismatch r v = true := by
  simp [mismatch, h]

theorem pollReady_of_err {r : Response} (h : r.err = true) : pollReady r = false := by
  simp [pollReady, h]

/-- The two answers agree in what the transaction of `d` carries: nothing on an error, nothing but the error bit for a write,
the low byte for a single-register read (R75). -/
def SameFor (d : Desc) (r r' : Response) : Prop :=
  r.err = r'.err ∧ (r.err = true ∨ d.kind = .wr1 ∨ (d.kind = .rd1 ∧ data0 r = data0 r'))

/-- A transport operation reads of its answer only what its kind of transaction carries. -/
theorem finishOf_congr {i : Instr} {d : Desc} (h : descOf i = some d) {r r' : Response} (hr : SameFor d r r') (s : State) :
    finishOf i r s = finishOf i r' s := by
  obtain ⟨herr, hfailed | hwrite | ⟨hread, hdata⟩⟩ := hr
  · have hfailed' := herr ▸ hfailed
    simp [finishOf_eq h, flagsAfter, successorOf, mismatch_of_err, pollReady_of_err, hfailed, hfailed']
  · have hi : i = .c1Wr ∨ i = .c4Wr := by
      cases i <;> cases h <;> cases hwrite <;> simp
    rcases hi with rfl | rfl <;> simp [finishOf, finishC1Wr_eq, finishC4Wr_eq, herr]
  · have hi : i ≠ .rdX ∧ i ≠ .rdY ∧ i ≠ .rdZ := by
      refine ⟨?_, ?_, ?_⟩ <;> rintro rfl <;> cases h <;> cases hread
    simp [finishOf_eq h, flagsAfter, successorOf, mismatch, pollReady, herr, hdata, hi]

/-- Settles O28: the recorded answer goes into REQ only, and the completion does not tell the two answers apart. -/
theorem ignoredResponseBits : Obligations.IgnoredResponseBits := by
  intro s i d r r' rs hd herr hbits
  have hexec (q : Response) : exec i { s with replies := some q :: rs } =
      .next (finishOf i q (State.logTxn d q { s with replies := rs })) :=
    (exec_transport hd _).trans (transport_answered d _ rfl)
  refine ⟨_, _, hexec r, hexec r', ?next, by simp⟩
  case next =>
    change State.withReq [] _ = State.withReq [] _
    rw [← finishOf_withReq hd, ← finishOf_withReq hd, finishOf_congr hd ⟨herr, hbits⟩]
    rfl

end Sys2Proof.Machine
end

section
/-!
PROOFS. The cycle level gives what the operation level gives (R78, R80, R81, R217).
-/
namespace Sys2Proof.Machine

section
variable {s : State} {i : Instr} {d : Desc}

/-- The request port is driven with the descriptor of the operation that the state code selects, whatever else the state
holds (R77). -/
theorem ports_request (hdec : decode s.state = .ok i) (hd : descOf i = some d) :
    (ports false s).reqValid = true ∧ (ports false s).reqDesc = some (encodeDesc d) := by
  have hcur : s.currentDesc = some d := by simp only [State.currentDesc, hdec, hd]
  simp [ports, hcur]

/-- One cycle of a transport operation without `rst`. -/
theorem cycle_transport {p : PortIn} (hrst : p.rst = false) (hdec : decode s.state = .ok i) (hd : descOf i = some d) :
    cycle p s = handshake d (finishOf i) p s := by
  rw [cycle_op hrst hdec, cycleOp_transport hd]

/-- While no answer comes, an outstanding request is held and nothing changes (R78). -/
theorem cycles_waiting (hdec : decode s.state = .ok i) (hd : descOf i = some d) (hpend : s.txnPending = true)
    {waits : List PortIn} (hwaits : ∀ p ∈ waits, p.rst = false ∧ p.rspValid = false) : cycles waits s = s := by
  induction waits with
  | nil => rfl
  | cons p ps ih =>
    obtain ⟨hrst, hvalid⟩ := hwaits p (by simp)
    rw [cycles, cycle_transport hrst hdec hd, handshake_wait d _ hpend hvalid]
    exact ih fun q hq => hwaits q (by simp [hq])

end

/-- Settles O58: the first cycle puts the request out, the waiting cycles hold it, the answering one completes it. -/
theorem handshakeRefinesOperation : Obligations.HandshakeRefinesOperation := by
  intro s i d first waits r hdec hd hpend hfirst hwaits
  have hheld : cycles (first :: waits) s = s.holdRequest := by
    rw [cycles, cycle_transport hfirst hdec hd, handshake_first d _ first hpend]
    exact cycles_waiting (s := s.holdRequest) hdec hd rfl hwaits
  have hanswered : cycles (first :: waits ++ [answerIn r]) s = finishOf i r (s.holdRequest.logTxn d r) := by
    rw [cycles_append, hheld]
    rw [cycles, cycle_transport (s := s.holdRequest) rfl hdec hd, handshake_answer d _ rfl rfl]
    rfl
  obtain ⟨hvalid, hdesc⟩ := ports_request hdec hd
  obtain ⟨hvalid', hdesc'⟩ := ports_request (s := s.holdRequest) hdec hd
  rw [hheld, hanswered]
  exact ⟨(exec_transport hd _).trans (transport_answered d _ rfl), rfl, hvalid, hdesc, hvalid', hdesc'⟩

/-- EMIT after `k` of its 14 cycles: the first `k` bytes of the frame are out and TX_IDX points at the next one (R80); with
the last byte the operation is complete (R81). -/
def State.emitted (k : Nat) (s : State) : State :=
  if k < 14 then { emitBytes ((frameBytes s).take k) s with txIdx := BitVec.ofNat 4 k } else effectEmit s

theorem emitted_of_lt {k : Nat} (hk : k < 14) (s : State) :
    s.emitted k = { emitBytes ((frameBytes s).take k) s with txIdx := BitVec.ofNat 4 k } :=
  if_pos hk

theorem emitted_zero {s : State} (h : s.txIdx = 0#4) : s.emitted 0 = s := by
  rw [emitted_of_lt (by decide)]
  simp [emitBytes, ← h]

theorem take_frameBytes_succ (s : State) (k : Fin 14) :
    (frameBytes s).take (k + 1) = (frameBytes s).take k ++ [frameRead s k] := by
  have hbyte : (frameBytes s)[k.val]'k.isLt = frameRead s k := by fin_cases k <;> rfl
  rw [← hbyte]
  exact (List.take_concat_get' (frameBytes s) k.val k.isLt).symm

/-- The byte presented in the cycle after `k` is FRAME[k]. -/
theorem txByte_emitted (s : State) (k : Fin 14) : txByte (s.emitted k) (s.emitted k).txIdx = frameRead s k := by
  fin_cases k <;> rfl

/-- The cycle of EMIT that presents FRAME[k] (R80, R81). -/
theorem emitCycle_emitted (s : State) (k : Fin 14) : emitCycle (s.emitted k) = s.emitted (k + 1) := by
  have hbytes : emitBytes [frameRead s k] (s.emitted k) =
      { emitBytes ((frameBytes s).take (k + 1)) s with txIdx := BitVec.ofNat 4 k } := by
    rw [emitted_of_lt k.isLt, take_frameBytes_succ]
    simp [emitBytes]
  have hidx : (s.emitted k).txIdx = BitVec.ofNat 4 k := by rw [emitted_of_lt k.isLt]
  rw [emitCycle, txByte_emitted, hbytes, hidx]
  rcases Nat.lt_or_ge (k + 1) 14 with hk | hk
  · have hne : BitVec.ofNat 4 k ≠ 13#4 := by bv_omega
    rw [emitted_of_lt hk, if_neg hne, BitVec.ofNat_add]
  · obtain rfl : k = 13 := by omega
    rfl

/-- The cycles of EMIT without `rst` are counted by the bytes they present. -/
theorem cycles_emitted {s : State} (hs : s.state = encode .emit) {ps : List PortIn} (hps : ∀ p ∈ ps, p.rst = false)
    {k : Nat} (hk : k + ps.length ≤ 14) : cycles ps (s.emitted k) = s.emitted (k + ps.length) := by
  induction ps generalizing k with
  | nil => rfl
  | cons p ps ih =>
    rw [List.length_cons] at hk ⊢
    have hlt : k < 14 := by omega
    have hdec : decode (s.emitted k).state = .ok .emit := by
      rw [emitted_of_lt hlt, emitBytes_state, hs, decode_encode]
    have hcycle : cycle p (s.emitted k) = s.emitted (k + 1) :=
      (cycle_op (hps p (by simp)) hdec).trans (emitCycle_emitted s ⟨k, hlt⟩)
    rw [cycles, hcycle, ih (fun q hq => hps q (by simp [hq])) (by omega), Nat.add_right_comm, Nat.add_assoc]

/-- The sink port while EMIT is running (R80). -/
theorem ports_emitting {s : State} (h : s.state = encode .emit) :
    (ports false s).txValid = true ∧ (ports false s).txData = txByte s s.txIdx := by
  simp [ports, State.emitting, h]

/-- Settles O59: the state after each number of cycles is known, and the sink port shows its next byte. -/
theorem emitCyclesRefineOperation : Obligations.EmitCyclesRefineOperation := by
  intro s ps hs htx hps
  have hcycles (hlen : ps.length ≤ 14) : cycles ps s = s.emitted ps.length := by
    simpa [emitted_zero htx] using cycles_emitted (k := 0) hs hps (by omega)
  refine ⟨fun k hk => ?_, fun hlen => ?_⟩
  · have hstate : (s.emitted k).state = encode .emit := by rw [emitted_of_lt k.isLt, emitBytes_state, hs]
    rw [hcycles (by omega), hk, ← txByte_emitted s k]
    exact ports_emitting hstate
  · rw [hcycles (by omega), hlen]
    rfl

end Sys2Proof.Machine
end

section
/-!
PROOFS. The CONFIG operations one at a time (R100 to R106): each is its completion applied to the answered transaction.
-/
namespace Sys2Proof.Machine

theorem exec_answered {i : Instr} {d : Desc} {s : State} {r : Response} (hd : descOf i = some d)
    (hr : s.nextReply = some r) : exec i s = .next (s.answered i d r) :=
  (exec_transport hd s).trans (transport_answered d (finishOf i) hr)

/-! The words of R74 that the CONFIG operations drive on `req_desc`. -/

@[simp] theorem encodeDesc_descIdRd : encodeDesc descIdRd = 0x01180F00#32 := rfl
@[simp] theorem encodeDesc_descC1Rd : encodeDesc descC1Rd = 0x01182000#32 := rfl
@[simp] theorem encodeDesc_descC1Wr : encodeDesc descC1Wr = 0x81182057#32 := rfl
@[simp] theorem encodeDesc_descC1Vr : encodeDesc descC1Vr = 0x01182000#32 := rfl
@[simp] theorem encodeDesc_descC4Rd : encodeDesc descC4Rd = 0x01182300#32 := rfl
@[simp] theorem encodeDesc_descC4Wr : encodeDesc descC4Wr = 0x81182398#32 := rfl
@[simp] theorem encodeDesc_descC4Vr : encodeDesc descC4Vr = 0x01182300#32 := rfl

/-- Settles O9: the next state is C1_RD whatever byte is read. -/
theorem idRdResult : Obligations.IdRdResult := by
  refine ⟨rfl, fun s r hr => ?_⟩
  rw [exec_answered rfl hr]
  simp [State.answered, finishOf, finishIdRd_eq, State.logTxn, mismatch, data0, Config.idExpected]

/-- Settles O10: the next state is chosen by the mismatch with CTRL1_CFG. -/
theorem c1RdResult : Obligations.C1RdResult := by
  refine ⟨rfl, fun s r hr => ?_⟩
  rw [exec_answered rfl hr]
  simp [State.answered, finishOf, finishC1Rd_eq, State.logTxn, mismatch, data0, Config.ctrl1Cfg]

/-- Settles O11: C1_WRITTEN is set on either answer. -/
theorem c1WrResult : Obligations.C1WrResult := by
  refine ⟨rfl, fun s r hr => ?_⟩
  rw [exec_answered rfl hr]
  simp [State.answered, finishOf, finishC1Wr_eq, State.logTxn]

/-- Settles O12: the mismatch flag counts a failed read as a mismatch. -/
theorem c1VrResult : Obligations.C1VrResult := by
  refine ⟨rfl, fun s r hr => ?_⟩
  rw [exec_answered rfl hr]
  simp [State.answered, finishOf, finishC1Vr_eq, State.logTxn, mismatch, data0, Config.ctrl1Cfg]

/-- Settles O13: the byte read goes to C4_VAL and nowhere else. -/
theorem c4RdResult : Obligations.C4RdResult := by
  refine ⟨rfl, fun s r hr => ?_⟩
  rw [exec_answered rfl hr]
  simp [State.answered, finishOf, finishC4Rd_eq, State.logTxn, data0]

/-- Settles O14: of the answer only the error is looked at. -/
theorem c4WrResult : Obligations.C4WrResult := by
  refine ⟨rfl, fun s r hr => ?_⟩
  rw [exec_answered rfl hr]
  simp [State.answered, finishOf, finishC4Wr_eq, State.logTxn]

/-- Settles O15: CFG_DONE is set on either answer. -/
theorem c4VrResult : Obligations.C4VrResult := by
  refine ⟨rfl, fun s r hr => ?_⟩
  rw [exec_answered rfl hr]
  simp [State.answered, finishOf, finishC4Vr_eq, State.logTxn, mismatch, data0, Config.ctrl4Cfg]

end Sys2Proof.Machine
end

section
/-!
PROOFS. After CONFIG no operation and no recovery leads back into it (R107).
-/
namespace Sys2Proof.Machine

/-- The codes of the operations after the CONFIG phase: acquisition, conversion and frame (R107). -/
abbrev AfterConfig (c : Code) : Prop := 0x7 ≤ c.toNat ∧ c.toNat ≤ 0xD

theorem answered_state {i : Instr} {d : Desc} (hd : descOf i = some d) (r : Response) (s : State) :
    (s.answered i d r).state = successorOf i r := by
  rw [State.answered, finishOf_eq hd]

/-- From POLL on, the operations lead to POLL, RD_X, RD_Y, RD_Z and CONV only. -/
theorem successorOf_afterConfig {i : Instr} (h : AfterConfig (encode i)) (r : Response) :
    AfterConfig (successorOf i r) := by
  cases i
  case poll =>
    simp only [successorOf]
    split <;> decide
  case rdX | rdY | rdZ | conv | pack | emit =>
    simp only [successorOf]
    decide
  all_goals exact absurd h (by decide)

theorem exec_afterConfig {i : Instr} {s t : State} (hs : s.state = encode i) (hi : AfterConfig (encode i))
    (h : exec i s = .next t) : AfterConfig t.state := by
  rcases exec_inv h with ⟨d, hd, ⟨-, rfl⟩ | ⟨r, -, rfl⟩⟩ | ⟨-, rfl⟩ | ⟨-, rfl⟩ | ⟨-, rfl⟩
  · rwa [State.popReply_state, hs]
  · rw [← State.answered, answered_state hd]
    exact successorOf_afterConfig hi r
  · rw [effectConv_eq]
    dsimp only
    split <;> decide
  · exact (by decide : AfterConfig (encode .emit))
  · exact (by decide : AfterConfig (encode .poll))

/-- Settles O17: a step without reset is an operation of the later phases or goes to POLL. -/
theorem configPhaseNeverReentered : Obligations.ConfigPhaseNeverReentered := by
  intro s t hrst h hcode
  rcases step_cases h with ⟨k, hk, -⟩ | ⟨-, i, hi, hx⟩ | ⟨-, e, -, rfl⟩
  · simp [hrst] at hk
  · have hs : s.popRst.state = encode i := decode_eq_ok hi
    exact exec_afterConfig hs (hs ▸ ⟨hcode, decode_ok_le hi⟩) hx
  · exact (by decide : AfterConfig (encode .poll))

end Sys2Proof.Machine
end

section
/-!
PROOFS. What a run that completes given operations leaves in the traces (R40), whatever the responses.
-/
namespace Sys2Proof.Machine

/-- The word that an operation drives on `req_desc`, if it is a transport operation (R74). -/
def issuedWord (i : Instr) : Option Word32 := (descOf i).map encodeDesc

/-- From `s` to `t` the requests `ws` are added to REQ, and none is left outstanding that was not before. -/
structure Requests (s : State) (ws : List Word32) (t : State) : Prop where
  req  : t.req.map Txn.desc = s.req.map Txn.desc ++ ws
  idle : s.txnPending = false → t.txnPending = false

theorem Requests.trans {s u t : State} {ws ws' : List Word32} (h : Requests s ws u) (h' : Requests u ws' t) :
    Requests s (ws ++ ws') t :=
  ⟨by rw [h'.req, h.req, List.append_assoc], fun hs => h'.idle (h.idle hs)⟩

/-- With no request outstanding, REQ is the answered and abandoned ones. -/
theorem reqTrace_of_idle {s : State} (h : s.txnPending = false) : s.reqTrace = s.req := by
  simp [State.reqTrace, State.outstanding, h]

/-- A step that completes an operation is that operation, and a transport operation has its answer. -/
theorem traceLine_eq_some {s : State} {l : TraceLine} (h : traceLine s = some l) :
    s.rstNow = none ∧ decode s.state = .ok l.op ∧ ∀ d, descOf l.op = some d → s.nextReply ≠ none := by
  unfold traceLine at h
  split at h
  next i hrst hdec =>
    split at h
    next =>
      obtain ⟨r, hr, rfl⟩ := Option.map_eq_some_iff.1 h
      exact ⟨hrst, hdec, fun _ _ => by simp [hr]⟩
    next hd =>
      cases h
      exact ⟨hrst, hdec, fun d hd' => by simp [hd] at hd'⟩
  next => cases h

theorem exec_of_traceLine {s u : State} {l : TraceLine} (hline : traceLine s = some l) (hstep : step s = .next u) :
    exec l.op s.popRst = .next u := by
  obtain ⟨hrst, hdec, -⟩ := traceLine_eq_some hline
  exact (stepRunsSelectedOperation s l.op hrst hdec).symm.trans hstep

/-- A completed operation adds its own request. -/
theorem requests_of_traceLine {s u : State} {l : TraceLine} (hline : traceLine s = some l) (hstep : step s = .next u) :
    Requests s (issuedWord l.op).toList u := by
  obtain ⟨-, -, hanswer⟩ := traceLine_eq_some hline
  rcases exec_inv (exec_of_traceLine hline hstep) with
    ⟨d, hd, ⟨hr, -⟩ | ⟨r, -, rfl⟩⟩ | ⟨hi, rfl⟩ | ⟨hi, rfl⟩ | ⟨hi, rfl⟩
  · exact absurd hr (hanswer d hd)
  · constructor <;> simp [issuedWord, hd]
  · constructor <;> simp [issuedWord, hi, descOf, effectConv_eq]
  · constructor <;> simp [issuedWord, hi, descOf, effectPack_eq]
  · constructor <;> simp [issuedWord, hi, descOf, effectEmit_eq]

theorem requests_of_completes {s t : State} {ops : List Instr} (h : Completes s ops t) :
    Requests s (ops.filterMap issuedWord) t := by
  induction h with
  | nil s => exact ⟨by simp, id⟩
  | @cons s u t l ops hline hstep _ ih =>
    have hcons : (l.op :: ops).filterMap issuedWord = (issuedWord l.op).toList ++ ops.filterMap issuedWord := by
      cases h : issuedWord l.op <;> simp [h]
    exact hcons ▸ (requests_of_traceLine hline hstep).trans ih

/-- Only EMIT appends to OUT. -/
theorem exec_out {i : Instr} {s t : State} (hi : i ≠ .emit) (h : exec i s = .next t) : t.out = s.out := by
  rcases exec_inv h with ⟨d, -, ⟨-, rfl⟩ | ⟨r, -, rfl⟩⟩ | ⟨-, rfl⟩ | ⟨-, rfl⟩ | ⟨he, -⟩
  · simp
  · simp
  · rw [effectConv_eq]
  · rw [effectPack_eq]
  · exact absurd he hi

theorem out_of_completes {s t : State} {ops : List Instr} (h : Completes s ops t) (hops : Instr.emit ∉ ops) :
    t.out = s.out := by
  induction h with
  | nil => rfl
  | cons hline hstep _ ih =>
    rw [List.mem_cons, not_or] at hops
    rw [ih hops.2, exec_out (Ne.symm hops.1) (exec_of_traceLine hline hstep)]
    simp

end Sys2Proof.Machine
end

section
/-!
PROOFS. The CONFIG phase has two request sequences (R108): its operations follow from one another, and only C1_RD's answer
chooses.
-/
namespace Sys2Proof.Machine

/-- Operation `i` runs next, no `rst` input is pending, and the answers to come are `rs`. -/
structure ReadyFor (s : State) (i : Instr) (rs : List (Option Response)) : Prop where
  rst     : s.rstIn = []
  code    : s.state = encode i
  replies : s.replies = rs

/-- An answered transport operation completes, and the operation of its next state comes with the answers that are left. -/
theorem ReadyFor.answered {s : State} {i j : Instr} {d : Desc} {r : Response} {rs : List (Option Response)}
    (h : ReadyFor s i (some r :: rs)) (hd : descOf i = some d) (hj : successorOf i r = encode j) :
    Completes s [i] (s.answered i d r) ∧ ReadyFor (s.answered i d r) j rs := by
  refine ⟨completes_transport h.rst h.code hd (nextReply_cons s _ rs h.replies), ?_, ?_, ?_⟩
  · simp [State.answered, h.rst]
  · rw [answered_state hd, hj]
  · simp [State.answered, h.replies]

theorem completes_cons {s u t : State} {i : Instr} {ops : List Instr} (h : Completes s [i] u) (h' : Completes u ops t) :
    Completes s (i :: ops) t :=
  completes_append h h'

/-- C4_VR ends the phase (R106). -/
theorem answered_c4Vr_cfgDone (r : Response) (s : State) : (s.answered .c4Vr descC4Vr r).flags.cfgDone = true := by
  simp [State.answered, finishOf, finishC4Vr_eq]

/-- The end of the phase, the same on both ways through it (R104 to R106). -/
theorem ReadyFor.completes_c4 {s : State} {r4 r5 r6 : Response} {rs : List (Option Response)}
    (h : ReadyFor s .c4Rd (some r4 :: some r5 :: some r6 :: rs)) :
    ∃ t, Completes s [.c4Rd, .c4Wr, .c4Vr] t ∧ t.state = encode .poll ∧ t.flags.cfgDone = true := by
  obtain ⟨hc4Rd, h⟩ := h.answered (j := .c4Wr) rfl rfl
  obtain ⟨hc4Wr, h⟩ := h.answered (j := .c4Vr) rfl rfl
  obtain ⟨hc4Vr, h⟩ := h.answered (j := .poll) rfl rfl
  exact ⟨_, completes_cons hc4Rd (completes_cons hc4Wr hc4Vr), h.code, answered_c4Vr_cfgDone r6 _⟩

/-- A read matches when it succeeds and brings the expected byte (R31). -/
theorem mismatch_eq_false_iff (r : Response) (v : Byte) :
    mismatch r v = false ↔ r.err = false ∧ r.data.extractLsb' 0 8 = v := by
  simp [mismatch, data0]

/-- The two request sequences of R108; `written` says whether control register 1 is written and read again. -/
def configRequests (written : Bool) : List Word32 :=
  [0x01180F00#32, 0x01182000#32] ++ (if written then [0x81182057#32, 0x01182000#32] else []) ++
    [0x01182300#32, 0x81182398#32, 0x01182300#32]

theorem configOps_issuedWord (written : Bool) : (configOps written).filterMap issuedWord = configRequests written := by
  cases written <;> simp [configOps, configRequests, issuedWord, descOf]

/-- A completed CONFIG phase as a run of `n` steps: OUT is as before, and REQ has the requests of its operations. -/
theorem config_result {s t : State} {written : Bool} {n : Nat} (hn : (configOps written).length = n)
    (hpend : s.txnPending = false) (h : Completes s (configOps written) t) :
    run n s = .next t ∧ t.out = s.out ∧ (traceRun n s).map TraceLine.op = configOps written ∧
      t.reqTrace.map Txn.desc = s.req.map Txn.desc ++ configRequests written := by
  subst hn
  have hreq := requests_of_completes h
  refine ⟨run_of_completes h, out_of_completes h (by cases written <;> decide), traceRun_of_completes h, ?_⟩
  rw [reqTrace_of_idle (hreq.idle hpend), hreq.req, configOps_issuedWord]

/-- Settles O16: ID_RD and C1_RD, then C1_WR and C1_VR or not, then the C4 operations; the traces follow from the
operations. -/
theorem configPhaseRequestSequences : Obligations.ConfigPhaseRequestSequences := by
  intro s r0 r1 r2 r3 r4 r5 r6 rest hc hpend hrst hq
  have h : ReadyFor s .idRd _ := ⟨hrst, hc, hq⟩
  obtain ⟨hidRd, h⟩ := h.answered (j := .c1Rd) rfl rfl
  have hsame_iff := mismatch_eq_false_iff r1 Config.ctrl1Cfg
  refine ⟨fun hsame => ?asConfigured, fun hdiffers => ?written⟩
  case asConfigured =>
    have hnext : successorOf .c1Rd r1 = encode .c4Rd := by simp [successorOf, hsame_iff.2 hsame]
    obtain ⟨hc1Rd, h⟩ := h.answered rfl hnext
    obtain ⟨t, hc4, htc, hdone⟩ := h.completes_c4
    have hrun : Completes s (configOps false) t := completes_cons hidRd (completes_cons hc1Rd hc4)
    obtain ⟨hsteps, hout, hlines, hreq⟩ := config_result (n := 5) rfl hpend hrun
    exact ⟨t, hsteps, htc, hdone, hout, hlines, hreq⟩
  case written =>
    have hnext : successorOf .c1Rd r1 = encode .c1Wr := by
      simp [successorOf, Bool.eq_true_of_not_eq_false (mt hsame_iff.1 hdiffers)]
    obtain ⟨hc1Rd, h⟩ := h.answered rfl hnext
    obtain ⟨hc1Wr, h⟩ := h.answered (j := .c1Vr) rfl rfl
    obtain ⟨hc1Vr, h⟩ := h.answered (j := .c4Rd) rfl rfl
    obtain ⟨t, hc4, htc, hdone⟩ := h.completes_c4
    have hrun : Completes s (configOps true) t :=
      completes_cons hidRd (completes_cons hc1Rd (completes_cons hc1Wr (completes_cons hc1Vr hc4)))
    obtain ⟨hsteps, hout, hlines, hreq⟩ := config_result (n := 7) rfl hpend hrun
    exact ⟨t, hsteps, htc, hdone, hout, hlines, hreq⟩

end Sys2Proof.Machine
end

section
/-!
PROOFS. The acquisition operations one at a time (R120 to R126), in the form of R120's two branches for POLL.
-/
namespace Sys2Proof.Machine

/-! The words of R74 that the acquisition operations drive on `req_desc`. -/

@[simp] theorem encodeDesc_descPoll : encodeDesc descPoll = 0x01182700#32 := rfl
@[simp] theorem encodeDesc_descRdX : encodeDesc descRdX = 0x42182800#32 := rfl
@[simp] theorem encodeDesc_descRdY : encodeDesc descRdY = 0x42182A00#32 := rfl
@[simp] theorem encodeDesc_descRdZ : encodeDesc descRdZ = 0x42182C00#32 := rfl

theorem pollReady_eq_false_iff (r : Response) :
    pollReady r = false ↔ ¬ (r.err = false ∧ r.data.getLsbD 3 = true) := by
  rw [← pollReady_iff, Bool.not_eq_true]

/-- The wrapping increment of POLL_CNT is the integer sum modulo 2^32 (R122). -/
theorem add_one_eq_ofNat (c : Word32) : c + 1#32 = BitVec.ofNat 32 (c.toNat + 1) := by
  rw [BitVec.ofNat_add, BitVec.ofNat_toNat, BitVec.setWidth_eq]

/-- Settles O18: the two branches are the completions of a ready and of a not-ready POLL. -/
theorem pollResult : Obligations.PollResult := by
  refine ⟨rfl, fun s r hr => ?_⟩
  rw [exec_answered rfl hr, State.answered, finishOf]
  by_cases hready : r.err = false ∧ r.data.getLsbD 3 = true
  · rw [if_pos hready, finishPoll_ready r _ ((pollReady_iff r).2 hready)]
    simp [State.logTxn, data0]
  · rw [if_neg hready, finishPoll_notReady r _ ((pollReady_eq_false_iff r).2 hready)]
    simp [State.logTxn, data0, add_one_eq_ofNat]

/-- Settles O19: a bit of a byte is its one-bit field. -/
theorem readyPredicateIsBitThree : Obligations.ReadyPredicateIsBitThree := by
  refine ⟨fun b => ?_, rfl, rfl, rfl, rfl⟩
  have hfield : b.extractLsb' 3 1 = BitVec.ofBool (ready b) := by
    ext i hi
    obtain rfl : i = 0 := by omega
    simp [ready, Config.zyxdaBit]
  rw [hfield]
  cases ready b <;> decide

/-- Settles O22: the next state is RD_Y on either answer. -/
theorem rdXResult : Obligations.RdXResult := by
  refine ⟨rfl, fun s r hr => ?_⟩
  rw [exec_answered rfl hr]
  simp [State.answered, finishOf, finishRdX_eq, State.logTxn, data0, data1]

/-- Settles O23: the next state is RD_Z on either answer. -/
theorem rdYResult : Obligations.RdYResult := by
  refine ⟨rfl, fun s r hr => ?_⟩
  rw [exec_answered rfl hr]
  simp [State.answered, finishOf, finishRdY_eq, State.logTxn, data0, data1]

/-- Settles O24: the next state is CONV on either answer. -/
theorem rdZResult : Obligations.RdZResult := by
  refine ⟨rfl, fun s r hr => ?_⟩
  rw [exec_answered rfl hr]
  simp [State.answered, finishOf, finishRdZ_eq, State.logTxn, data0, data1]

end Sys2Proof.Machine
end

section
/-!
PROOFS. POLL is left only for a ready answer (R123).
-/
namespace Sys2Proof.Machine

theorem successorOf_poll_ready {r : Response} (h : pollReady r = true) : successorOf .poll r = encode .rdX := by
  simp [successorOf, h]

theorem successorOf_poll_notReady {r : Response} (h : pollReady r = false) : successorOf .poll r = encode .poll := by
  simp [successorOf, h]

/-- Whether the next scripted entry is an answer that is not ready or none at all, POLL is run again, and OUT is as
before. -/
theorem ReadyFor.poll_again {s : State} {a : Option Response} {rs : List (Option Response)}
    (h : ReadyFor s .poll (a :: rs)) (ha : ∀ r, a = some r → pollReady r = false) :
    ∃ u, step s = .next u ∧ ReadyFor u .poll rs ∧ u.out = s.out := by
  have hstep : step s = transport descPoll (finishOf .poll) s :=
    step_of_decode (i := .poll) h.rst (by rw [h.code, decode_encode])
  have hnext : s.nextReply = a := nextReply_cons s a rs h.replies
  cases a with
  | none =>
    refine ⟨s.popReply, hstep.trans (transport_waiting _ _ hnext), ⟨?_, ?_, ?_⟩, s.popReply_out⟩
    · rw [State.popReply_rstIn, h.rst]
    · rw [State.popReply_state, h.code]
    · rw [State.popReply_replies, h.replies, List.tail_cons]
  | some r =>
    obtain ⟨-, hu⟩ := h.answered rfl (successorOf_poll_notReady (ha r rfl))
    exact ⟨s.answered .poll descPoll r, hstep.trans (transport_answered _ _ hnext), hu, by simp [State.answered]⟩

/-- Any number of scripted entries without a ready answer among them leaves the block in POLL (R123, R194). -/
theorem run_poll_stays {n : Nat} {s : State} {rs : List (Option Response)} (h : ReadyFor s .poll rs) (hn : n ≤ rs.length)
    (hrs : ∀ a ∈ rs.take n, ∀ r, a = some r → pollReady r = false) :
    ∃ t, run n s = .next t ∧ t.state = encode .poll ∧ t.out = s.out := by
  induction n generalizing s rs with
  | zero => exact ⟨s, run_zero s, h.code, rfl⟩
  | succ n ih =>
    cases rs with
    | nil => simp at hn
    | cons a rs =>
      rw [List.take_succ_cons, List.forall_mem_cons] at hrs
      obtain ⟨u, hstep, hu, hout⟩ := h.poll_again hrs.1
      obtain ⟨t, hrun, htc, htout⟩ := ih hu (Nat.le_of_succ_le_succ hn) hrs.2
      exact ⟨t, (run_succ hstep n).trans hrun, htc, htout.trans hout⟩

/-- A step without reset that leaves POLL is POLL's completion with a ready answer. -/
theorem ready_of_leaves_poll {s t : State} (hrst : s.rstNow = none) (hc : s.state = encode .poll) (h : step s = .next t)
    (hleaves : t.state ≠ encode .poll) : t.state = encode .rdX ∧ ∃ r, s.nextReply = some r ∧ pollReady r = true := by
  have hx : exec .poll s.popRst = .next t :=
    (stepRunsSelectedOperation s .poll hrst (by rw [hc, decode_encode])).symm.trans h
  rcases transport_cases hx with ⟨-, rfl⟩ | ⟨r, hr, rfl⟩
  · rw [State.popReply_state, State.popRst_state] at hleaves
    exact absurd hc hleaves
  · have hnext : (finishPoll r (s.popRst.popReply.logTxn descPoll r)).state = successorOf .poll r :=
      answered_state (i := .poll) rfl r s.popRst
    rw [hnext] at hleaves ⊢
    cases hready : pollReady r with
    | false => exact absurd (successorOf_poll_notReady hready) hleaves
    | true => exact ⟨successorOf_poll_ready hready, r, hr, hready⟩

/-- Settles O21: the only way out of POLL, and a run without it. -/
theorem pollLeftOnlyWhenReady : Obligations.PollLeftOnlyWhenReady := by
  refine ⟨fun s t hrst hc h hleaves => ?left, fun n s hc hrst hn hrs => ?stays⟩
  case left =>
    obtain ⟨htc, r, hr, hready⟩ := ready_of_leaves_poll hrst hc h hleaves
    exact ⟨htc, r, hr, (pollReady_iff r).1 hready⟩
  case stays =>
    exact run_poll_stays ⟨hrst, hc, rfl⟩ hn fun a ha r har => (pollReady_eq_false_iff r).2 (hrs a ha r har)

end Sys2Proof.Machine
end

section
/-!
PROOFS. Consecutive not-ready polls are counted, and only the one that reaches POLL_LIMIT sets TIMEOUT (R122).
-/
namespace Sys2Proof.Machine

/-- The state after one POLL for each of the answers `rs`. -/
def State.polled (rs : List Response) (s : State) : State := rs.foldl (fun u r => u.answered .poll descPoll r) s

theorem polled_cons (r : Response) (rs : List Response) (s : State) :
    s.polled (r :: rs) = (s.answered .poll descPoll r).polled rs := rfl

theorem polled_concat (rs : List Response) (r : Response) (s : State) :
    s.polled (rs ++ [r]) = (s.polled rs).answered .poll descPoll r :=
  List.foldl_concat ..

/-- Not-ready answers that come at once are one POLL each, and POLL is run again. -/
theorem ReadyFor.polled {s : State} {rs : List Response} {rest : List (Option Response)}
    (h : ReadyFor s .poll (rs.map some ++ rest)) (hrs : ∀ r ∈ rs, pollReady r = false) :
    Completes s (List.replicate rs.length .poll) (s.polled rs) ∧ ReadyFor (s.polled rs) .poll rest := by
  induction rs generalizing s with
  | nil => exact ⟨.nil s, h⟩
  | cons r rs ih =>
    rw [List.forall_mem_cons] at hrs
    obtain ⟨hpoll, hu⟩ := h.answered rfl (successorOf_poll_notReady hrs.1)
    obtain ⟨hpolls, ht⟩ := ih hu hrs.2
    exact ⟨completes_cons hpoll hpolls, ht⟩

@[simp] theorem answered_params (i : Instr) (d : Desc) (r : Response) (s : State) :
    (s.answered i d r).params = s.params := by
  simp [State.answered]

/-- The counter after a not-ready POLL (R122). -/
theorem answered_poll_pollCnt {r : Response} (h : pollReady r = false) (s : State) :
    (s.answered .poll descPoll r).pollCnt = if AtPollLimit s then 0#32 else s.pollCnt + 1#32 := by
  simp [State.answered, finishOf, finishPoll_notReady r _ h, AtPollLimit]

/-- TIMEOUT after a not-ready POLL (R122). -/
theorem answered_poll_timeout {r : Response} (h : pollReady r = false) (s : State) :
    (s.answered .poll descPoll r).flags.timeout = (s.flags.timeout || decide (AtPollLimit s)) := by
  simp [State.answered, finishOf, finishPoll_notReady r _ h]

/-- A not-ready POLL below the limit is counted and sets no flag. -/
theorem answered_poll_of_lt {r : Response} (h : pollReady r = false) {s : State}
    (hlt : s.pollCnt.toNat + 1 < s.params.pollLimit.toNat) :
    (s.answered .poll descPoll r).pollCnt.toNat = s.pollCnt.toNat + 1 ∧
      (s.answered .poll descPoll r).flags.timeout = s.flags.timeout := by
  have hlimit : ¬ AtPollLimit s := by unfold AtPollLimit; omega
  have hwrap : (s.pollCnt + 1#32).toNat = s.pollCnt.toNat + 1 := by
    have := s.params.pollLimit.isLt
    rw [BitVec.toNat_add]
    exact Nat.mod_eq_of_lt (by simp; omega)
  simp [answered_poll_pollCnt h, answered_poll_timeout h, hlimit, hwrap]

/-- While the limit is not reached, POLL_CNT counts the polls. -/
theorem polled_of_lt {s : State} {rs : List Response} (hrs : ∀ r ∈ rs, pollReady r = false)
    (hlt : s.pollCnt.toNat + rs.length < s.params.pollLimit.toNat) :
    (s.polled rs).pollCnt.toNat = s.pollCnt.toNat + rs.length ∧ (s.polled rs).flags.timeout = s.flags.timeout ∧
      (s.polled rs).params = s.params := by
  induction rs generalizing s with
  | nil => exact ⟨rfl, rfl, rfl⟩
  | cons r rs ih =>
    rw [List.forall_mem_cons] at hrs
    rw [List.length_cons] at hlt ⊢
    obtain ⟨hcnt, htimeout⟩ := answered_poll_of_lt hrs.1 (s := s) (by omega)
    obtain ⟨ihcnt, ihtimeout, ihparams⟩ :=
      ih (s := s.answered .poll descPoll r) hrs.2 (by rw [hcnt, answered_params]; omega)
    rw [polled_cons]
    exact ⟨by omega, ihtimeout.trans htimeout, ihparams.trans (answered_params ..)⟩

/-- The poll that reaches the limit restarts the count and sets TIMEOUT. -/
theorem polled_of_eq {s : State} {rs : List Response} (hrs : ∀ r ∈ rs, pollReady r = false) (hpos : rs ≠ [])
    (heq : s.pollCnt.toNat + rs.length = s.params.pollLimit.toNat) :
    (s.polled rs).pollCnt = 0#32 ∧ (s.polled rs).flags.timeout = true := by
  obtain ⟨qs, r, rfl⟩ := (List.eq_nil_or_concat' rs).resolve_left hpos
  rw [List.forall_mem_append] at hrs
  rw [List.length_append, List.length_singleton] at heq
  obtain ⟨hcnt, -, hparams⟩ := polled_of_lt hrs.1 (s := s) (by omega)
  have hlimit : AtPollLimit (s.polled qs) := by unfold AtPollLimit; rw [hparams, hcnt]; omega
  have hr : pollReady r = false := hrs.2 r (List.mem_singleton_self r)
  rw [polled_concat]
  simp [answered_poll_pollCnt hr, answered_poll_timeout hr, hlimit]

/-- Without a limit no operation changes TIMEOUT. -/
theorem exec_timeout {i : Instr} {s t : State} (hlimit : s.params.pollLimit = 0#32) (h : exec i s = .next t) :
    t.flags.timeout = s.flags.timeout := by
  rcases exec_inv h with ⟨d, hd, ⟨-, rfl⟩ | ⟨r, -, rfl⟩⟩ | ⟨-, rfl⟩ | ⟨-, rfl⟩ | ⟨-, rfl⟩
  · rw [State.popReply_flags]
  · simp [finishOf_eq hd, flagsAfter, AtPollLimit, hlimit]
  · rw [effectConv_eq]
  · rw [effectPack_eq]
  · rfl

/-- Settles O20: the polls below the limit and the one that reaches it; without a limit, by the kinds of step. -/
theorem timeoutAtPollLimit : Obligations.TimeoutAtPollLimit := by
  refine ⟨fun s rs rest hc hrst hcnt hpos hrs hq _ => ?limit, fun s t hlimit hrst h => ?unlimited⟩
  case limit =>
    have hnot : ∀ r ∈ rs, pollReady r = false := fun r hr => (pollReady_eq_false_iff r).2 (hrs r hr)
    have hready : ReadyFor s .poll (rs.map some ++ rest) := ⟨hrst, hc, hq⟩
    obtain ⟨hpolls, ht⟩ := hready.polled hnot
    have hzero : s.pollCnt.toNat = 0 := by rw [hcnt]; rfl
    refine ⟨s.polled rs, by simpa using run_of_completes hpolls, ht.code, fun hlt => ?_, fun heq => ?_⟩
    · obtain ⟨hcount, htimeout, -⟩ := polled_of_lt hnot (s := s) (by omega)
      exact ⟨by omega, htimeout⟩
    · exact polled_of_eq hnot (List.length_pos_iff.1 (by omega)) (by omega)
  case unlimited =>
    rcases step_cases h with ⟨k, hk, -⟩ | ⟨-, i, -, hx⟩ | ⟨-, e, -, rfl⟩
    · simp [hrst] at hk
    · exact exec_timeout (s := s.popRst) hlimit hx
    · rfl

end Sys2Proof.Machine
end

section
/-!
PROOFS. The three axis reads: the last error gates the conversion (R127), and the requests up to CONV (R129).
-/
namespace Sys2Proof.Machine

/-- The state after RD_X, RD_Y and RD_Z with the answers `x`, `y` and `z`. -/
def State.axesRead (x y z : Response) (s : State) : State :=
  s.answered .rdX descRdX x |>.answered .rdY descRdY y |>.answered .rdZ descRdZ z

/-- The three reads follow one another whatever their errors, and lead to CONV (R128). -/
theorem ReadyFor.axesRead {s : State} {x y z : Response} {rest : List (Option Response)}
    (h : ReadyFor s .rdX (some x :: some y :: some z :: rest)) :
    Completes s [.rdX, .rdY, .rdZ] (s.axesRead x y z) ∧ ReadyFor (s.axesRead x y z) .conv rest := by
  obtain ⟨hx, h⟩ := h.answered (j := .rdY) rfl rfl
  obtain ⟨hy, h⟩ := h.answered (j := .rdZ) rfl rfl
  obtain ⟨hz, h⟩ := h.answered (j := .conv) rfl rfl
  exact ⟨completes_cons hx (completes_cons hy hz), h⟩

/-- The axis word held after a read: the answer's, or the one before if the read has failed (R26, R75). -/
def wordAfter (r : Response) (high low : Byte) : Word16 := if r.err then high ++ low else r.data

theorem append_eq_wordAfter (r : Response) (high low : Byte) :
    (if r.err then high else data1 r) ++ (if r.err then low else data0 r) = wordAfter r high low := by
  unfold wordAfter
  split
  · rfl
  · exact axisWord_data r

section
variable (x y z : Response) (s : State)

@[simp] theorem axesRead_errGate : (s.axesRead x y z).errGate = z.err := by
  simp [State.axesRead, State.answered, finishOf, finishRdZ_eq]

theorem axesRead_acqErr : (s.axesRead x y z).flags.acqErr = (s.flags.acqErr || x.err || y.err || z.err) := by
  simp [State.axesRead, State.answered, finishOf, finishRdX_eq, finishRdY_eq, finishRdZ_eq]

theorem axesRead_lastErrState : (s.axesRead x y z).lastErrState =
    if z.err then 0xA#4 else if y.err then 0x9#4 else if x.err then 0x8#4 else s.lastErrState := by
  simp [State.axesRead, State.answered, finishOf, finishRdX_eq, finishRdY_eq, finishRdZ_eq]

theorem axesRead_xWord : (s.axesRead x y z).xh ++ (s.axesRead x y z).xl = wordAfter x s.xh s.xl := by
  simp [State.axesRead, State.answered, finishOf, finishRdX_eq, finishRdY_eq, finishRdZ_eq, append_eq_wordAfter]

theorem axesRead_yWord : (s.axesRead x y z).yh ++ (s.axesRead x y z).yl = wordAfter y s.yh s.yl := by
  simp [State.axesRead, State.answered, finishOf, finishRdX_eq, finishRdY_eq, finishRdZ_eq, append_eq_wordAfter]

theorem axesRead_zWord : (s.axesRead x y z).zh ++ (s.axesRead x y z).zl = wordAfter z s.zh s.zl := by
  simp [State.axesRead, State.answered, finishOf, finishRdX_eq, finishRdY_eq, finishRdZ_eq, append_eq_wordAfter]

@[simp] theorem axesRead_params : (s.axesRead x y z).params = s.params := by
  simp [State.axesRead]

@[simp] theorem axesRead_ax : (s.axesRead x y z).ax = s.ax := by
  simp [State.axesRead, State.answered]

@[simp] theorem axesRead_ay : (s.axesRead x y z).ay = s.ay := by
  simp [State.axesRead, State.answered]

@[simp] theorem axesRead_az : (s.axesRead x y z).az = s.az := by
  simp [State.axesRead, State.answered]

end

/-- Settles O25: the registers after the three reads, then CONV with and without the gate. -/
theorem lastAxisErrorGates : Obligations.LastAxisErrorGates := by
  intro s x y z rest hc hrst hq
  have h : ReadyFor s .rdX _ := ⟨hrst, hc, hq⟩
  obtain ⟨hreads, ht⟩ := h.axesRead
  have hconv : step (s.axesRead x y z) = .next (effectConv (s.axesRead x y z)) :=
    step_of_decode (i := .conv) ht.rst (by rw [ht.code, decode_encode])
  refine ⟨_, run_of_completes hreads, ht.code, axesRead_errGate .., axesRead_acqErr .., axesRead_lastErrState ..,
    axesRead_xWord .., axesRead_yWord .., axesRead_zWord .., _, hconv, fun hz => ?gated, fun hz => ?converted⟩
  case gated => simp [effectConv_eq, hz]
  case converted =>
    have hzWord : wordAfter z s.zh s.zl = z.data := by simp [wordAfter, hz]
    simp only [effectConv_eq, convAxis, axisWord, axesRead_errGate, axesRead_params, axesRead_xWord, axesRead_yWord,
      axesRead_zWord, hz, hzWord]
    exact ⟨rfl, rfl, rfl⟩

/-- The operations of an acquisition cycle up to CONV, with `n` polls before the ready one (R86). -/
def acquireOps (n : Nat) : List Instr := List.replicate (n + 1) .poll ++ [.rdX, .rdY, .rdZ]

theorem acquireOps_length (n : Nat) : (acquireOps n).length = n + 4 := by
  simp [acquireOps]

theorem acquireOps_issuedWord (n : Nat) : (acquireOps n).filterMap issuedWord =
    List.replicate (n + 1) 0x01182700#32 ++ [0x42182800#32, 0x42182A00#32, 0x42182C00#32] := by
  simp [acquireOps, issuedWord, descOf, List.filterMap_replicate]

/-- The polls that are not ready, the ready one, and the three reads. -/
theorem ReadyFor.completes_acquireOps {s : State} {ps : List Response} {p x y z : Response} {rest : List (Option Response)}
    (h : ReadyFor s .poll (ps.map some ++ some p :: some x :: some y :: some z :: rest))
    (hps : ∀ r ∈ ps, pollReady r = false) (hp : pollReady p = true) :
    ∃ t, Completes s (acquireOps ps.length) t ∧ t.state = encode .conv := by
  obtain ⟨hpolls, h⟩ := h.polled hps
  obtain ⟨hready, h⟩ := h.answered rfl (successorOf_poll_ready hp)
  obtain ⟨hreads, h⟩ := h.axesRead
  refine ⟨_, ?_, h.code⟩
  rw [acquireOps, List.replicate_succ', List.append_assoc]
  exact completes_append hpolls (completes_append hready hreads)

/-- Settles O26: the requests follow from the operations completed. -/
theorem acquisitionCycleRequests : Obligations.AcquisitionCycleRequests := by
  intro s ps p x y z rest hc hpend hrst hps hperr hpbit hq
  have h : ReadyFor s .poll (ps.map some ++ some p :: some x :: some y :: some z :: rest) := ⟨hrst, hc, by simp [hq]⟩
  obtain ⟨t, hrun, htc⟩ := h.completes_acquireOps (fun r hr => (pollReady_eq_false_iff r).2 (hps r hr))
    ((pollReady_iff p).2 ⟨hperr, hpbit⟩)
  have hreq := requests_of_completes hrun
  rw [← acquireOps_length]
  refine ⟨t, run_of_completes hrun, htc, traceRun_of_completes hrun, ?_⟩
  rw [reqTrace_of_idle (hreq.idle hpend), hreq.req, acquireOps_issuedWord, List.append_assoc]

end Sys2Proof.Machine
end

section
/-!
PROOFS. The rounding of the binary64 model is roundTiesToEven (R145): the exponent is the fraction's, and the significand is
the nearest whole number of units of the last place.
-/
namespace Sys2Proof.Machine

/-- The model scales by natural powers of 2 on both sides of a fraction; together they are one power with an integer
exponent. -/
theorem two_zpow_eq_div (e : ℤ) : (2 : ℚ) ^ e = 2 ^ e.toNat / 2 ^ (-e).toNat := by
  conv_lhs => rw [← Int.toNat_sub_toNat_neg e]
  rw [zpow_sub₀ two_ne_zero, zpow_natCast, zpow_natCast]

theorem scaled_lt_iff (a b : ℕ) (e : ℤ) : a * 2 ^ (-e).toNat < b * 2 ^ e.toNat ↔ (a : ℚ) < b * 2 ^ e := by
  rw [two_zpow_eq_div, mul_div_assoc', lt_div_iff₀ (by positivity)]
  norm_cast

theorem scaled_le_iff (a b : ℕ) (e : ℤ) : b * 2 ^ e.toNat ≤ a * 2 ^ (-e).toNat ↔ (b : ℚ) * 2 ^ e ≤ a := by
  rw [← not_lt, scaled_lt_iff, not_lt]

/-- The exponents of numerator and denominator leave two candidates, between which the model's comparison decides. -/
theorem floorLog2Ratio_spec {num den : ℕ} (hnum : 0 < num) (hden : 0 < den) :
    (den : ℚ) * 2 ^ floorLog2Ratio num den ≤ num ∧ (num : ℚ) < den * 2 ^ (floorLog2Ratio num den + 1) := by
  set k : ℤ := (num.log2 : ℤ) - den.log2 with hk
  have hnumLog : (2 : ℚ) ^ num.log2 ≤ num ∧ (num : ℚ) < 2 ^ (num.log2 + 1) :=
    ⟨by exact_mod_cast Nat.log2_self_le hnum.ne', by exact_mod_cast Nat.lt_log2_self⟩
  have hdenLog : (2 : ℚ) ^ den.log2 ≤ den ∧ (den : ℚ) < 2 ^ (den.log2 + 1) :=
    ⟨by exact_mod_cast Nat.log2_self_le hden.ne', by exact_mod_cast Nat.lt_log2_self⟩
  have hpow : (2 : ℚ) ^ num.log2 = 2 ^ den.log2 * 2 ^ k := by
    rw [← zpow_natCast, ← zpow_natCast, ← zpow_add₀ two_ne_zero, hk, add_sub_cancel]
  have hk0 : (0 : ℚ) < 2 ^ k := by positivity
  have hpred : (2 : ℚ) ^ (k - 1) * 2 = 2 ^ k := by rw [← zpow_add_one₀ two_ne_zero, sub_add_cancel]
  have hsucc : (2 : ℚ) ^ (k + 1) = 2 ^ k * 2 := zpow_add_one₀ two_ne_zero k
  have hval : floorLog2Ratio num den = if (num : ℚ) < den * 2 ^ k then k - 1 else k :=
    if_congr (scaled_lt_iff num den k) rfl rfl
  rw [hval]
  rw [pow_succ] at hnumLog hdenLog
  split
  next hlt =>
    rw [sub_add_cancel]
    exact ⟨by nlinarith, hlt⟩
  next hge => exact ⟨not_lt.1 hge, by nlinarith⟩

/-- The quotient is off by at most one half, and when by one half, it is even. -/
theorem divTiesToEven_spec (n : ℕ) {d : ℕ} (hd : 0 < d) :
    2 * ((n : ℤ) - divTiesToEven n d * d) ≤ d ∧ -(d : ℤ) ≤ 2 * ((n : ℤ) - divTiesToEven n d * d) ∧
      (2 * ((n : ℤ) - divTiesToEven n d * d) = d ∨ 2 * ((n : ℤ) - divTiesToEven n d * d) = -d →
        divTiesToEven n d % 2 = 0) := by
  have hdiv : (n : ℤ) = (n / d : ℕ) * d + (n % d : ℕ) := by exact_mod_cast (Nat.div_add_mod' n d).symm
  have hrem : n % d < d := Nat.mod_lt n hd
  simp only [divTiesToEven]
  split
  next hup =>
    rw [hdiv, Nat.cast_succ, add_one_mul]
    omega
  next hdown =>
    rw [hdiv]
    omega

theorem le_divTiesToEven {n d a : ℕ} (hd : 0 < d) (h : a * d ≤ n) : a ≤ divTiesToEven n d := by
  have hq : a ≤ n / d := (Nat.le_div_iff_mul_le hd).2 h
  simp only [divTiesToEven]
  split <;> omega

theorem divTiesToEven_le {n d a : ℕ} (hd : 0 < d) (h : n < a * d) : divTiesToEven n d ≤ a := by
  have hq : n / d < a := (Nat.div_lt_iff_lt_mul hd).2 h
  simp only [divTiesToEven]
  split <;> omega

theorem roundTiesToEven_of_pos (neg : Bool) {num : ℕ} (den : ℕ) (hnum : 0 < num) : roundTiesToEven neg num den =
    { neg := neg
      man := divTiesToEven (num * 2 ^ (-(floorLog2Ratio num den - 52)).toNat)
        (den * 2 ^ (floorLog2Ratio num den - 52).toNat)
      exp := floorLog2Ratio num den - 52 } :=
  if_neg hnum.ne'

/-- The chosen exponent puts the fraction between 2^52 and 2^53 units of the last place. -/
theorem scaled_floorLog2Ratio {num den : ℕ} (hnum : 0 < num) (hden : 0 < den) {e : ℤ}
    (he : e = floorLog2Ratio num den - 52) :
    2 ^ 52 * (den * 2 ^ e.toNat) ≤ num * 2 ^ (-e).toNat ∧ num * 2 ^ (-e).toNat < 2 ^ 53 * (den * 2 ^ e.toNat) := by
  obtain ⟨hle, hlt⟩ := floorLog2Ratio_spec hnum hden
  have hlog : floorLog2Ratio num den = 52 + e := by omega
  have hlog' : floorLog2Ratio num den + 1 = 53 + e := by omega
  rw [hlog', zpow_add₀ two_ne_zero, mul_left_comm] at hlt
  rw [hlog, zpow_add₀ two_ne_zero, mul_left_comm] at hle
  rw [← mul_assoc, ← mul_assoc, scaled_le_iff, scaled_lt_iff]
  push_cast
  rw [mul_assoc, mul_assoc]
  exact ⟨hle, hlt⟩

/-- Settles O38: the exponent by the bounds of the logarithm, the significand by those of the rounded division. -/
theorem roundingIsTiesToEven : Obligations.RoundingIsTiesToEven := by
  intro neg num den hnum hden
  simp only [roundTiesToEven_of_pos neg den hnum]
  obtain ⟨hle, hlt⟩ := scaled_floorLog2Ratio hnum hden rfl
  generalize floorLog2Ratio num den - 52 = e at hle hlt ⊢
  have hd : 0 < den * 2 ^ e.toNat := by positivity
  obtain ⟨hlow, hhigh, heven⟩ := divTiesToEven_spec (num * 2 ^ (-e).toNat) hd
  push_cast at hlow hhigh heven
  exact ⟨trivial, by exact_mod_cast hle, by exact_mod_cast hlt, le_divTiesToEven hd hle, divTiesToEven_le hd hlt, hlow,
    hhigh, heven⟩

end Sys2Proof.Machine
end

section
/-!
PROOFS. The values of the binary64 numbers: each operation of R145 is exact up to one relative error of at most 2^-53.
-/
namespace Sys2Proof.Machine

/-- The magnitude of a binary64 number. -/
def Binary64.mag (x : Binary64) : ℚ := x.man * 2 ^ x.exp

/-- The bound of the relative error of one rounding. -/
def unitRoundoff : ℚ := 1 / 2 ^ 53

/-- `x` is `q` after `k` roundings. -/
structure Approx (k : ℕ) (x q : ℚ) : Prop where
  lower : q * (1 - unitRoundoff) ^ k ≤ x
  upper : x ≤ q * (1 + unitRoundoff) ^ k

theorem unitRoundoff_bounds : 0 < 1 - unitRoundoff ∧ 1 - unitRoundoff ≤ 1 ∧ 1 ≤ 1 + unitRoundoff := by
  norm_num [unitRoundoff]

section
variable {k l : ℕ} {x y q p : ℚ}

theorem Approx.refl (q : ℚ) : Approx 0 q q := ⟨by simp, by simp⟩

theorem Approx.nonneg (h : Approx k x q) (hq : 0 ≤ q) : 0 ≤ x :=
  (mul_nonneg hq (pow_nonneg unitRoundoff_bounds.1.le k)).trans h.lower

theorem Approx.trans (h : Approx k y x) (h' : Approx l x q) : Approx (l + k) y q := by
  obtain ⟨hpos, -, hone⟩ := unitRoundoff_bounds
  constructor
  · rw [pow_add, ← mul_assoc]
    exact (mul_le_mul_of_nonneg_right h'.lower (by positivity)).trans h.lower
  · rw [pow_add, ← mul_assoc]
    exact h.upper.trans (mul_le_mul_of_nonneg_right h'.upper (by positivity))

theorem Approx.mul (h : Approx k x q) (h' : Approx l y p) (hq : 0 ≤ q) (hp : 0 ≤ p) :
    Approx (k + l) (x * y) (q * p) := by
  obtain ⟨hpos, -, hone⟩ := unitRoundoff_bounds
  have hx := h.nonneg hq
  constructor
  · rw [pow_add, mul_mul_mul_comm]
    exact mul_le_mul h.lower h'.lower (by positivity) hx
  · rw [pow_add, mul_mul_mul_comm]
    exact mul_le_mul h.upper h'.upper (h'.nonneg hp) (hx.trans h.upper)

theorem Approx.div_const (h : Approx k x q) {c : ℚ} (hc : 0 < c) : Approx k (x / c) (q / c) := by
  constructor <;> rw [div_mul_eq_mul_div]
  · exact div_le_div_of_nonneg_right h.lower hc.le
  · exact div_le_div_of_nonneg_right h.upper hc.le

theorem Approx.mono (h : Approx k x q) (hq : 0 ≤ q) (hkl : k ≤ l) : Approx l x q := by
  obtain ⟨hpos, hone, hone'⟩ := unitRoundoff_bounds
  exact ⟨(mul_le_mul_of_nonneg_left (pow_le_pow_of_le_one hpos.le hone hkl) hq).trans h.lower,
    h.upper.trans (mul_le_mul_of_nonneg_left (pow_le_pow_right₀ hone' hkl) hq)⟩

end

/-- Half a unit of the last place is at most 2^-53 of the fraction. -/
theorem approx_roundTiesToEven (neg : Bool) (num : ℕ) {den : ℕ} (hden : 0 < den) :
    Approx 1 (roundTiesToEven neg num den).mag (num / den) := by
  rcases num.eq_zero_or_pos with rfl | hnum
  · simpa [roundTiesToEven, Binary64.mag] using (Approx.refl 0).mono le_rfl zero_le_one
  obtain ⟨-, hulp, -, -, -, hlow, hhigh, -⟩ := roundingIsTiesToEven neg num den hnum hden
  generalize roundTiesToEven neg num den = x at hulp hlow hhigh ⊢
  have hd : (0 : ℚ) < den * 2 ^ x.exp.toNat := by positivity
  have hfrac : (num : ℚ) / den = num * 2 ^ (-x.exp).toNat / (den * 2 ^ x.exp.toNat) * 2 ^ x.exp := by
    rw [two_zpow_eq_div]
    field_simp
  have hulp' : (2 : ℚ) ^ 52 * (den * 2 ^ x.exp.toNat) ≤ num * 2 ^ (-x.exp).toNat := by exact_mod_cast hulp
  have hlow' : (2 : ℚ) * (num * 2 ^ (-x.exp).toNat - x.man * (den * 2 ^ x.exp.toNat)) ≤ den * 2 ^ x.exp.toNat := by
    exact_mod_cast hlow
  have hhigh' : -((den : ℚ) * 2 ^ x.exp.toNat) ≤ 2 * (num * 2 ^ (-x.exp).toNat - x.man * (den * 2 ^ x.exp.toNat)) := by
    exact_mod_cast hhigh
  have hunit : (0 : ℚ) ≤ 2 ^ x.exp := by positivity
  rw [hfrac, Binary64.mag]
  generalize (den : ℚ) * 2 ^ x.exp.toNat = d at *
  generalize (num : ℚ) * 2 ^ (-x.exp).toNat = n at *
  constructor <;> rw [pow_one, mul_right_comm, div_mul_eq_mul_div] <;> refine mul_le_mul_of_nonneg_right ?_ hunit
  · rw [div_le_iff₀ hd, unitRoundoff]
    linarith
  · rw [le_div_iff₀ hd, unitRoundoff]
    linarith

/-- The product that the model rounds is that of the magnitudes. -/
theorem approx_mul (x y : Binary64) : Approx 1 (x.mul y).mag (x.mag * y.mag) := by
  have hprod : x.mag * y.mag =
      ((x.man * y.man * 2 ^ (x.exp + y.exp).toNat : ℕ) : ℚ) / (2 ^ (-(x.exp + y.exp)).toNat : ℕ) := by
    rw [Binary64.mag, Binary64.mag, mul_mul_mul_comm, ← zpow_add₀ two_ne_zero, two_zpow_eq_div]
    push_cast
    ring
  rw [hprod]
  exact approx_roundTiesToEven _ _ (by positivity)

/-- The quotient that the model rounds is that of the magnitudes. -/
theorem approx_div (x : Binary64) {y : Binary64} (hy : 0 < y.man) : Approx 1 (x.div y).mag (x.mag / y.mag) := by
  have hquot : x.mag / y.mag =
      ((x.man * 2 ^ (x.exp - y.exp).toNat : ℕ) : ℚ) / (y.man * 2 ^ (-(x.exp - y.exp)).toNat : ℕ) := by
    rw [Binary64.mag, Binary64.mag, mul_div_mul_comm, ← zpow_sub₀ two_ne_zero, two_zpow_eq_div]
    push_cast
    ring
  rw [hquot]
  exact approx_roundTiesToEven _ _ (by positivity)

/-- `trunc` keeps the integer part of the magnitude (R12). -/
theorem trunc_eq_floor (x : Binary64) : x.trunc = if x.neg then -(⌊x.mag⌋₊ : ℤ) else ⌊x.mag⌋₊ := by
  have hfloor : ⌊x.mag⌋₊ = x.man * 2 ^ x.exp.toNat / 2 ^ (-x.exp).toNat := by
    rw [← Nat.floor_div_eq_div (K := ℚ), Binary64.mag, two_zpow_eq_div]
    push_cast
    rw [mul_div_assoc]
  rw [hfloor]
  rfl

end Sys2Proof.Machine
end

section
/-!
PROOFS. The raw count (R142) and the exact conversion (R143).
-/
namespace Sys2Proof.Machine

/-- The arithmetic shift moves bits 15..4 down and fills up with the sign. -/
theorem sshiftRight_four_eq (w : Word16) : w.sshiftRight 4 = (w.extractLsb' 4 12).signExtend 16 := by
  ext i hi
  rw [BitVec.getElem_sshiftRight, BitVec.getElem_signExtend]
  by_cases hfield : i < 12
  · have hshifted : 4 + i < 16 := by omega
    simp [hfield, hshifted]
  · have hshifted : ¬ 4 + i < 16 := by omega
    simp [hfield, hshifted, BitVec.msb_eq_getLsbD_last]

theorem rawCount_eq (w : Word16) : rawCount w = (w.extractLsb' 4 12).toInt := by
  rw [rawCount, sshiftRight_four_eq, BitVec.toInt_signExtend_of_le (by decide)]

theorem rawCount_append (c : BitVec 12) (k : BitVec 4) : rawCount (c ++ k) = c.toInt := by
  rw [rawCount_eq]
  exact congrArg BitVec.toInt BitVec.extractLsb'_append_eq_left

theorem rawCount_bounds (w : Word16) : -2048 ≤ rawCount w ∧ rawCount w ≤ 2047 := by
  rw [rawCount_eq]
  have hlow := BitVec.le_toInt (w.extractLsb' 4 12)
  have hhigh := BitVec.toInt_le (x := w.extractLsb' 4 12)
  constructor <;> omega

/-- Settles O34: the sign-extended field is the shifted word. -/
theorem rawCountForms : Obligations.RawCountForms := by
  intro w
  obtain ⟨hlow, hhigh⟩ := rawCount_bounds w
  exact ⟨rawCount_eq w, hlow, hhigh, fun v hv => by rw [rawCount_eq, rawCount_eq, hv]⟩

/-- The sign is put back on the divided magnitude. -/
theorem convExact_eq (r : ℤ) : convExact r = if r < 0 then -(1962 * -r / 100) else 1962 * r / 100 := by
  have hp : milliG r * 981 = 1962 * r := by rw [milliG, Config.sensMg]; ring
  simp only [convExact, hp]
  split <;> split <;> omega

theorem convExact_natCast (n : ℕ) : convExact n = (1962 * n / 100 : ℕ) := by
  rw [convExact_eq, if_neg (by omega)]
  push_cast
  rfl

theorem convExact_eq_natAbs (r : ℤ) : convExact r = if r < 0 then -convExact r.natAbs else convExact r.natAbs := by
  rw [convExact_eq, convExact_natCast]
  split <;> omega

theorem convExact_eq_tdiv (r : ℤ) : convExact r = (r * 2 * 981).tdiv 100 := by
  have hsign : Int.sign 100 = 1 := rfl
  rw [convExact_eq, Int.tdiv_eq_ediv, hsign]
  split <;> split <;> omega

/-- Settles O35: a magnitude divided rounding down is a number divided rounding toward zero. -/
theorem exactConversionTruncates : Obligations.ExactConversionTruncates := fun w => convExact_eq_tdiv (rawCount w)

end Sys2Proof.Machine
end

section
/-!
PROOFS. The binary64 forms of R144 and R145 agree with the exact conversion wherever the exact product is not a whole number:
there it is at least 1/50 away from the next one, and four roundings do not bridge that. The counts that are left are the
multiples of 50, and these are evaluated.
-/
namespace Sys2Proof.Machine

/-- The number with another sign. -/
def Binary64.withNeg (b : Bool) (x : Binary64) : Binary64 := { x with neg := b }

theorem roundTiesToEven_neg (b : Bool) (num den : ℕ) :
    roundTiesToEven b num den = (roundTiesToEven false num den).withNeg b := by
  unfold roundTiesToEven
  split <;> rfl

/-- Multiplying by a positive number keeps the sign and does not look at it. -/
theorem withNeg_mul (b : Bool) (x : Binary64) {y : Binary64} (hy : y.neg = false) :
    (x.withNeg b).mul y = (x.mul y).withNeg b := by
  simp only [Binary64.mul, hy, Bool.bne_false]
  rw [roundTiesToEven_neg, roundTiesToEven_neg x.neg]
  rfl

/-- Dividing by a positive number keeps the sign and does not look at it. -/
theorem withNeg_div (b : Bool) (x : Binary64) {y : Binary64} (hy : y.neg = false) :
    (x.withNeg b).div y = (x.div y).withNeg b := by
  simp only [Binary64.div, hy, Bool.bne_false]
  rw [roundTiesToEven_neg, roundTiesToEven_neg x.neg]
  rfl

/-- `f` computes `c` times a count in binary64, with the count's sign and its magnitude after `k` roundings. -/
structure ScalesCount (f : ℤ → Binary64) (k : ℕ) (c : ℚ) : Prop where
  nonneg : 0 ≤ c
  sign : ∀ r, f r = (f r.natAbs).withNeg (decide (r < 0))
  approx : ∀ n : ℕ, Approx k (f n).mag (n * c)

theorem mag_ofInt (i : ℤ) : (Binary64.ofInt i).mag = i.natAbs := by
  simp [Binary64.ofInt, Binary64.mag]

/-- A small multiple of a count is a binary64 number. -/
theorem scalesCount_ofInt {m : ℕ} (hm : 0 < m) : ScalesCount (fun r => Binary64.ofInt (m * r)) 0 m where
  nonneg := m.cast_nonneg
  sign r := by
    have hneg : (m : ℤ) * r < 0 ↔ r < 0 := by
      rw [mul_neg_iff]
      omega
    simp [Binary64.ofInt, Binary64.withNeg, hneg, Int.natAbs_mul, Int.natAbs_abs]
  approx n := by
    have hmag : (Binary64.ofInt (m * n)).mag = n * m := by
      rw [mag_ofInt, Int.natAbs_mul, Int.natAbs_natCast, Int.natAbs_natCast, mul_comm, Nat.cast_mul]
    exact hmag ▸ Approx.refl _

section
variable {f : ℤ → Binary64} {k : ℕ} {c : ℚ}

theorem ScalesCount.mul (h : ScalesCount f k c) {y : Binary64} {l : ℕ} {d : ℚ} (hneg : y.neg = false) (hd : 0 ≤ d)
    (hy : Approx l y.mag d) : ScalesCount (fun r => (f r).mul y) (k + l + 1) (c * d) where
  nonneg := mul_nonneg h.nonneg hd
  sign r := by rw [h.sign r, withNeg_mul _ _ hneg]
  approx n := by
    rw [← mul_assoc]
    exact (approx_mul (f n) y).trans ((h.approx n).mul hy (mul_nonneg n.cast_nonneg h.nonneg) hd)

theorem ScalesCount.div (h : ScalesCount f k c) {y : Binary64} (hneg : y.neg = false) (hy : 0 < y.man) :
    ScalesCount (fun r => (f r).div y) (k + 1) (c / y.mag) where
  nonneg := div_nonneg h.nonneg (by unfold Binary64.mag; positivity)
  sign r := by rw [h.sign r, withNeg_div _ _ hneg]
  approx n := by
    have hpos : 0 < y.mag := by unfold Binary64.mag; positivity
    rw [← mul_div_assoc]
    exact (approx_div (f n) hy).trans ((h.approx n).div_const hpos)

theorem ScalesCount.neg_natCast (h : ScalesCount f k c) (n : ℕ) : (f n).neg = false := by
  rw [h.sign]
  simp [Binary64.withNeg]

/-- `trunc` is taken of the magnitude, and the sign put back. -/
theorem ScalesCount.trunc_eq (h : ScalesCount f k c) (r : ℤ) :
    (f r).trunc = if r < 0 then -(f r.natAbs).trunc else (f r.natAbs).trunc := by
  rw [h.sign, trunc_eq_floor, trunc_eq_floor (f r.natAbs), h.neg_natCast]
  simp [Binary64.withNeg, Binary64.mag]

/-- Four roundings do not reach the next whole number, which is 1/50 away or more. -/
theorem floor_of_approx {n : ℕ} (hn : n ≤ 2048) (hfifty : ¬ 50 ∣ n) {x : ℚ} (h : Approx 4 x (n * (1962 / 100))) :
    ⌊x⌋₊ = 1962 * n / 100 := by
  have hx : 0 ≤ x := h.nonneg (by positivity)
  obtain ⟨hlow, hhigh⟩ := h
  have hrem : 2 ≤ 1962 * n % 100 ∧ 1962 * n % 100 ≤ 98 := by omega
  have hdiv : 100 * ((1962 * n / 100 : ℕ) : ℚ) + (1962 * n % 100 : ℕ) = 1962 * n := by
    exact_mod_cast Nat.div_add_mod (1962 * n) 100
  generalize 1962 * n / 100 = q at hdiv ⊢
  generalize 1962 * n % 100 = r at hdiv hrem
  have hrem' : (2 : ℚ) ≤ r ∧ (r : ℚ) ≤ 98 := by exact_mod_cast hrem
  have hn' : (n : ℚ) ≤ 2048 := by exact_mod_cast hn
  have hdown : (1 : ℚ) - 1 / 2 ^ 50 ≤ (1 - unitRoundoff) ^ 4 := by norm_num [unitRoundoff]
  have hup : (1 + unitRoundoff) ^ 4 ≤ (1 : ℚ) + 1 / 2 ^ 50 := by norm_num [unitRoundoff]
  have hlow' := (mul_le_mul_of_nonneg_left hdown (by positivity)).trans hlow
  have hhigh' := hhigh.trans (mul_le_mul_of_nonneg_left hup (by positivity))
  exact (Nat.floor_eq_iff hx).2 ⟨by linarith, by linarith⟩

/-- Away from the multiples of 50 a form that scales by 19.62 truncates to the exact conversion. -/
theorem ScalesCount.trunc_eq_convExact (h : ScalesCount f k (1962 / 100)) (hk : k ≤ 4) {n : ℕ} (hn : n ≤ 2048)
    (hfifty : ¬ 50 ∣ n) : (f n).trunc = convExact n := by
  have happrox := (h.approx n).mono (mul_nonneg n.cast_nonneg h.nonneg) hk
  rw [trunc_eq_floor, h.neg_natCast, floor_of_approx hn hfifty happrox, convExact_natCast]
  rfl

/-- A form that also gives the exact conversion at the multiples of 50 up to 2000 gives it at every count. -/
theorem ScalesCount.trunc_eq_convExact_of_fifties (h : ScalesCount f k (1962 / 100)) (hk : k ≤ 4)
    (hfifties : ∀ j < 41, (f (50 * j : ℕ)).trunc = convExact (50 * j : ℕ)) {r : ℤ} (hlow : -2048 ≤ r)
    (hhigh : r ≤ 2048) : (f r).trunc = convExact r := by
  have hn : r.natAbs ≤ 2048 := by omega
  have hnat : (f r.natAbs).trunc = convExact r.natAbs := by
    by_cases hfifty : 50 ∣ r.natAbs
    · obtain ⟨j, hj⟩ := hfifty
      exact hj ▸ hfifties j (by omega)
    · exact h.trunc_eq_convExact hk hn hfifty
  rw [h.trunc_eq, convExact_eq_natAbs, hnat]

end

/-- C981 is 9.81 rounded (R145). -/
theorem c981_eq_round : c981 = roundTiesToEven false 981 100 := by decide

theorem approx_c981 : Approx 1 c981.mag (981 / 100) := by
  rw [c981_eq_round]
  exact approx_roundTiesToEven false 981 (by decide)

theorem mag_f1000 : f1000.mag = 1000 := mag_ofInt 1000

theorem approx_f1000 : Approx 0 f1000.mag 1000 := mag_f1000 ▸ Approx.refl 1000

/-- R144's first form, `(double(r) * 2.0) * 9.81`. -/
theorem scalesCount_doubled_mul_c981 :
    ScalesCount (fun r => ((Binary64.ofInt r).mul (Binary64.ofInt 2)).mul c981) 3 (1962 / 100) := by
  have hcount : ScalesCount Binary64.ofInt 0 1 := by simpa using scalesCount_ofInt one_pos
  have htwo : Approx 0 (Binary64.ofInt 2).mag 2 := mag_ofInt 2 ▸ Approx.refl 2
  have hscale : (1962 / 100 : ℚ) = 1 * 2 * (981 / 100) := by norm_num
  exact hscale ▸ (hcount.mul rfl zero_le_two htwo).mul rfl (by norm_num) approx_c981

/-- R144's second form, `double(2r) * 9.81`. -/
theorem scalesCount_mul_c981 : ScalesCount (fun r => (Binary64.ofInt (2 * r)).mul c981) 2 (1962 / 100) := by
  have hscale : (1962 / 100 : ℚ) = (2 : ℕ) * (981 / 100) := by norm_num
  exact hscale ▸ (scalesCount_ofInt two_pos).mul rfl (by norm_num) approx_c981

/-- R144's third form, `double(2r) * (9.81/1000.0) * 1000.0`. -/
theorem scalesCount_mul_quotient_mul_f1000 :
    ScalesCount (fun r => ((Binary64.ofInt (2 * r)).mul (c981.div f1000)).mul f1000) 4 (1962 / 100) := by
  have hquot : Approx 2 (c981.div f1000).mag (981 / 100 / 1000) := by
    have hdiv := approx_div c981 (y := f1000) (by decide)
    rw [mag_f1000] at hdiv
    exact hdiv.trans (approx_c981.div_const (by norm_num))
  have hscale : (1962 / 100 : ℚ) = (2 : ℕ) * (981 / 100 / 1000) * 1000 := by norm_num
  exact hscale ▸ ((scalesCount_ofInt two_pos).mul rfl (by norm_num) hquot).mul rfl (by norm_num) approx_f1000

/-- R145's operation order, `((double(2r) * C981) / 1000.0) * 1000.0`. -/
theorem scalesCount_mul_c981_div_f1000_mul_f1000 :
    ScalesCount (fun r => (((Binary64.ofInt (2 * r)).mul c981).div f1000).mul f1000) 4 (1962 / 100) := by
  have hscale : (1962 / 100 : ℚ) = 1962 / 100 / f1000.mag * 1000 := by norm_num [mag_f1000]
  rw [hscale]
  exact (scalesCount_mul_c981.div rfl (by decide)).mul rfl (by norm_num) approx_f1000

/-- Settles O36: three forms with at most four roundings each. -/
theorem exactEqualsBinary64Forms : Obligations.ExactEqualsBinary64Forms := by
  intro r hlow hhigh
  have hhigh' : r ≤ 2048 := by omega
  refine ⟨?_, ?_, ?_⟩ <;> symm
  · exact scalesCount_doubled_mul_c981.trunc_eq_convExact_of_fifties (by decide) (by decide) hlow hhigh'
  · exact scalesCount_mul_c981.trunc_eq_convExact_of_fifties (by decide) (by decide) hlow hhigh'
  · exact scalesCount_mul_quotient_mul_f1000.trunc_eq_convExact_of_fifties (by decide) (by decide) hlow hhigh'

theorem convSrcFloat_eq (r : ℤ) :
    convSrcFloat r = ((((Binary64.ofInt (2 * r)).mul c981).div f1000).mul f1000).trunc := by
  rw [mul_comm]
  rfl

/-- At the multiples of 50 the operation order of R145 meets a whole number, except at 1650. -/
theorem convSrcFloat_fifties :
    ∀ j < 41, convSrcFloat (50 * j : ℕ) = convExact (50 * j : ℕ) - if j = 33 then 1 else 0 := by
  decide

theorem convSrcFloat_natCast {n : ℕ} (hn : n ≤ 2048) : convSrcFloat n = convExact n - if n = 1650 then 1 else 0 := by
  by_cases hfifty : 50 ∣ n
  · obtain ⟨j, rfl⟩ := hfifty
    rw [convSrcFloat_fifties j (by omega)]
    simp only [show 50 * j = 1650 ↔ j = 33 by omega]
  · rw [convSrcFloat_eq, scalesCount_mul_c981_div_f1000_mul_f1000.trunc_eq_convExact le_rfl hn hfifty, if_neg (by omega),
      sub_zero]

/-- What SRC_FLOAT loses to EXACT: 1 in magnitude at two counts (R145). -/
def srcFloatLoss (r : ℤ) : ℤ := if r = 1650 then 1 else if r = -1650 then -1 else 0

theorem convSrcFloat_eq_sub {r : ℤ} (hlow : -2048 ≤ r) (hhigh : r ≤ 2048) :
    convSrcFloat r = convExact r - srcFloatLoss r := by
  have hnat := convSrcFloat_natCast (n := r.natAbs) (by omega)
  rw [convSrcFloat_eq] at hnat ⊢
  rw [scalesCount_mul_c981_div_f1000_mul_f1000.trunc_eq, hnat, convExact_eq_natAbs r, srcFloatLoss]
  split <;> omega

/-- Settles O37: the two counts are the only multiples of 50 at which the rounding shows. -/
theorem srcFloatDiffersAtTwoCounts : Obligations.SrcFloatDiffersAtTwoCounts := by
  refine ⟨rfl, c981_eq_round, by decide, fun w => rfl, fun r hlow hhigh => ?counts, by decide, by decide, by decide,
    by decide⟩
  case counts =>
    rw [convSrcFloat_eq_sub hlow (by omega), srcFloatLoss]
    omega

end Sys2Proof.Machine
end

section
/-!
PROOFS. What the rules of 42_convert.md say of Conv in both modes (R146 to R149): read off the exact conversion, from which
the other mode departs by 1 at two counts.
-/
namespace Sys2Proof.Machine

/-- What a mode loses to EXACT. -/
def lossOf : Config.ConvMode → ℤ → ℤ
  | .exact, _    => 0
  | .srcFloat, r => srcFloatLoss r

theorem convCount_eq_sub (m : Config.ConvMode) {r : ℤ} (hlow : -2048 ≤ r) (hhigh : r ≤ 2048) :
    convCount m r = convExact r - lossOf m r := by
  cases m with
  | exact => exact (sub_zero _).symm
  | srcFloat => exact convSrcFloat_eq_sub hlow hhigh

theorem lossOf_bounds (m : Config.ConvMode) (r : ℤ) : -1 ≤ lossOf m r ∧ lossOf m r ≤ 1 := by
  cases m <;> simp only [lossOf, srcFloatLoss] <;> omega

theorem lossOf_neg (m : Config.ConvMode) (r : ℤ) : lossOf m (-r) = -lossOf m r := by
  cases m <;> simp only [lossOf, srcFloatLoss] <;> omega

theorem convExact_neg (r : ℤ) : convExact (-r) = -convExact r := by
  rw [convExact_eq, convExact_eq]
  split <;> split <;> omega

/-- One count more adds at least 19 to the exact conversion. -/
theorem convExact_add_le {r r' : ℤ} (h : r < r') : convExact r + 19 ≤ convExact r' := by
  rw [convExact_eq, convExact_eq]
  split <;> split <;> omega

theorem convCount_neg (m : Config.ConvMode) {r : ℤ} (hlow : -2048 ≤ r) (hhigh : r ≤ 2048) :
    convCount m (-r) = -convCount m r := by
  rw [convCount_eq_sub m hlow hhigh, convCount_eq_sub m (by omega) (by omega), convExact_neg, lossOf_neg, neg_sub_neg,
    neg_sub]

/-- What the mode loses is less than a count adds. -/
theorem convCount_mono (m : Config.ConvMode) {r r' : ℤ} (hlow : -2048 ≤ r) (h : r ≤ r') (hhigh : r' ≤ 2048) :
    convCount m r ≤ convCount m r' := by
  rcases h.eq_or_lt with rfl | hlt
  · exact le_rfl
  · have hstep := convExact_add_le hlt
    have hloss := lossOf_bounds m r
    have hloss' := lossOf_bounds m r'
    rw [convCount_eq_sub m hlow (by omega), convCount_eq_sub m (by omega) hhigh]
    omega

theorem convCount_lowest (m : Config.ConvMode) : convCount m (-2048) = -40181 := by cases m <;> decide

theorem convCount_highest (m : Config.ConvMode) : convCount m 2047 = 40162 := by cases m <;> decide

theorem convCount_minus_one (m : Config.ConvMode) : convCount m (-1) = -19 := by cases m <;> decide

/-- The range of Conv is between the values of the lowest and the highest count (R147). -/
theorem convWord_bounds (m : Config.ConvMode) (w : Word16) : -40181 ≤ convWord m w ∧ convWord m w ≤ 40162 := by
  obtain ⟨hlow, hhigh⟩ := rawCount_bounds w
  rw [← convCount_lowest m, ← convCount_highest m]
  exact ⟨convCount_mono m le_rfl hlow (by omega), convCount_mono m hlow hhigh (by omega)⟩

/-- Settles O40: the ends are the words of the lowest and the highest count. -/
theorem conversionRange : Obligations.ConversionRange :=
  fun m => ⟨convWord_bounds m, convCount_highest m, convCount_lowest m⟩

/-- What CONV writes to an axis register reads back as Conv (R146). -/
theorem toInt_ofInt_convWord (m : Config.ConvMode) (w : Word16) :
    (BitVec.ofInt 32 (convWord m w)).toInt = convWord m w := by
  obtain ⟨hlow, hhigh⟩ := convWord_bounds m w
  rw [BitVec.toInt_ofInt]
  exact Int.bmod_eq_of_le (by omega) (by omega)

/-- Settles O39: the bounds of the raw count, multiplied, and those of Conv. -/
theorem conversionNeverOverflows : Obligations.ConversionNeverOverflows := by
  intro m w
  obtain ⟨hrawLow, hrawHigh⟩ := rawCount_bounds w
  obtain ⟨hlow, hhigh⟩ := convWord_bounds m w
  have hmg : milliG (rawCount w) = rawCount w * 2 := rfl
  exact ⟨by omega, by omega, by omega, by decide, by omega, by decide, toInt_ofInt_convWord m w⟩

/-- Settles O41: what a mode loses to the exact conversion is odd in the count, and smaller than a step. -/
theorem conversionSymmetricMonotone : Obligations.ConversionSymmetricMonotone := fun m =>
  ⟨fun _ hlow hhigh => convCount_neg m (by omega) (by omega),
    fun _ _ hlow h hhigh => convCount_mono m hlow h (by omega), convCount_minus_one m, convCount_lowest m⟩

/-- Settles O42: the low nibble does not count, so each clause is about one count. -/
theorem conversionNearZero : Obligations.ConversionNearZero := by
  intro m k
  have hzero : rawCount (0x000#12 ++ k) = 0 := rawCount_append _ k
  have hneg : rawCount (0xFFF#12 ++ k) = -1 := rawCount_append _ k
  have hpos : rawCount (0x001#12 ++ k) = 1 := rawCount_append _ k
  have hconv : convCount m 0 = 0 ∧ convCount m 1 = 19 := by cases m <;> decide
  simp only [convWord, hzero, hneg, hpos]
  exact ⟨trivial, hconv.1, trivial, convCount_minus_one m, trivial, hconv.2⟩

end Sys2Proof.Machine
end

section
/-!
PROOFS. CONV as an operation (R140), and the cycle whose last axis read has failed (R141).
-/
namespace Sys2Proof.Machine

/-- Settles O32: both cases of the gate are the one record update of CONV. -/
theorem convResult : Obligations.ConvResult := by
  refine ⟨rfl, fun s => ?_⟩
  change Host.Outcome.next (effectConv s) = _
  rw [effectConv_eq]
  cases s.errGate <;> cases s.params.emitOnError <;> rfl

/-- A gated CONV that goes on to PACK, and EMIT: the frame of the axis registers as they are (R141). -/
theorem completes_gatedEmit {s : State} (hr : s.rstIn = []) (hc : s.state = encode .conv) (hg : s.errGate = true)
    (he : s.params.emitOnError = true) :
    Completes s [.conv, .pack, .emit] (effectEmit (effectPack (effectConv s))) := by
  refine completes_cons (completes_silent hr hc rfl rfl) <|
    completes_cons (completes_silent ?_ ?_ rfl rfl) (completes_silent ?_ ?_ rfl rfl)
  all_goals simp [effectPack_eq, effectConv_eq, hr, hg, he]

/-- Settles O33: CONV leaves the axis registers alone, and the policy chooses whether PACK and EMIT follow. -/
theorem gatedCycleFollowsPolicy : Obligations.GatedCycleFollowsPolicy := by
  intro s hc hr hwf hg
  refine ⟨fun he => ?emits, fun he => ?skips⟩
  case emits =>
    have hframe := frameBytes_effectPack (s := effectConv s) (by rw [effectConv_eq]; exact hwf)
    refine ⟨_, run_of_completes (completes_gatedEmit hr hc hg he), rfl, ?_⟩
    rw [effectEmit_eq, hframe]
    simp [effectPack_eq, effectConv_eq, hg]
  case skips =>
    refine ⟨effectConv s, run_of_completes (completes_silent (i := .conv) hr hc rfl rfl), ?_⟩
    simp [effectConv_eq, hg, he, frameRead]

end Sys2Proof.Machine
end

section
/-!
PROOFS. The bytes of the frame decide its canonical buffer (R29).
-/
namespace Sys2Proof.Machine

/-- FRAME[0] to FRAME[13] as the list over the offsets, the form in which R162 is stated. -/
theorem frameBytes_eq_map (s : State) : frameBytes s = (List.finRange 14).map (frameRead s) := rfl

theorem Memory.wfAbove_cons {lo b : Nat} {w : Byte} {rest : Memory} : Memory.wfAbove lo ((b, w) :: rest) = true ↔
    lo < b ∧ b < 13 ∧ w ≠ Memory.unlisted b ∧ Memory.wfAbove b rest = true := by
  simp only [Memory.wfAbove, Bool.and_eq_true, decide_eq_true_eq, and_assoc]

/-- A canonical buffer differs at its first entry from every one that begins later: the entry is no unlisted value. -/
theorem Memory.get_head_ne {b : Nat} {w : Byte} {rest m : Memory} (hw : w ≠ Memory.unlisted b)
    (hm : Memory.wfAbove b m = true) : Memory.get b ((b, w) :: rest) ≠ Memory.get b m := by
  rw [Memory.get_of_wfAbove le_rfl hm, Memory.get, if_pos rfl]
  exact hw

/-- Two canonical buffers with the same bytes are equal: their first entries are at the same offset, and so on. -/
theorem Memory.eq_of_get_eq {lo : Nat} {m m' : Memory} (h : Memory.wfAbove lo m = true) (h' : Memory.wfAbove lo m' = true)
    (hget : ∀ a, lo < a → a < 13 → Memory.get a m = Memory.get a m') : m = m' := by
  induction m generalizing lo m' with
  | nil =>
    cases m' with
    | nil => rfl
    | cons c' rest' =>
      obtain ⟨hlo', hlt', hw', -⟩ := Memory.wfAbove_cons.1 h'
      exact absurd (hget _ hlo' hlt').symm (Memory.get_head_ne hw' rfl)
  | cons c rest ih =>
    obtain ⟨b, w⟩ := c
    obtain ⟨hlo, hlt, hw, hrest⟩ := Memory.wfAbove_cons.1 h
    cases m' with
    | nil => exact absurd (hget b hlo hlt) (Memory.get_head_ne hw rfl)
    | cons c' rest' =>
      obtain ⟨b', w'⟩ := c'
      obtain ⟨hlo', hlt', hw', hrest'⟩ := Memory.wfAbove_cons.1 h'
      rcases lt_trichotomy b b' with hbb' | rfl | hbb'
      · have hlater := Memory.wfAbove_cons.2 ⟨hbb', hlt', hw', hrest'⟩
        exact absurd (hget b hlo hlt) (Memory.get_head_ne hw hlater)
      · have hhead : w = w' := by simpa [Memory.get] using hget b hlo hlt
        have htail : rest = rest' := ih hrest hrest' fun a ha ha' => by
          simpa [Memory.get, Nat.ne_of_gt ha] using hget a (hlo.trans ha) ha'
        rw [hhead, htail]
      · have hlater := Memory.wfAbove_cons.2 ⟨hbb', hlt, hw, hrest⟩
        exact absurd (hget b' hlo' hlt').symm (Memory.get_head_ne hw' hlater)

theorem frame_eq_of_frameBytes_eq {s t : State} (hs : s.frame.wf = true) (ht : t.frame.wf = true)
    (h : frameBytes s = frameBytes t) : s.frame = t.frame := by
  refine Memory.eq_of_get_eq hs ht fun a hpos hlt => ?_
  simp only [frameBytes_eq_map, List.map_inj_left] at h
  have hread := h ⟨a, by omega⟩ (List.mem_finRange _)
  have h0 : (⟨a, by omega⟩ : Fin 14) ≠ 0 := Fin.ne_of_val_ne (Nat.ne_of_gt hpos)
  have h13 : (⟨a, by omega⟩ : Fin 14) ≠ 13 := Fin.ne_of_val_ne (Nat.ne_of_lt hlt)
  simpa only [frameRead, if_neg h0, if_neg h13] using hread

end Sys2Proof.Machine
end

section
/-!
PROOFS. PACK lays the axis registers out in the frame buffer (R160, R161), and EMIT sends the buffer (R162).
-/
namespace Sys2Proof.Machine

theorem effectPack_frame_wf {s : State} (h : s.frame.wf = true) : (effectPack s).frame.wf = true :=
  frameWrites_wf _ h

/-- One byte of the layout of R82 after PACK. -/
theorem frameRead_effectPack {s : State} (h : s.frame.wf = true) (p : Fin 14) :
    frameRead (effectPack s) p = (frameOf s.ax s.ay s.az)[p.val]'p.isLt := by
  have hbyte : (frameBytes (effectPack s))[p.val]'p.isLt = frameRead (effectPack s) p := by simp [frameBytes_eq_map]
  rw [← hbyte]
  exact List.getElem_of_eq (frameBytes_effectPack h) _

/-- The four bytes of a field, put together little-endian, are the word (R53). -/
theorem append_bytes_eq (v : Word32) :
    v.extractLsb' 24 8 ++ v.extractLsb' 16 8 ++ v.extractLsb' 8 8 ++ v.extractLsb' 0 8 = v := by
  have hv : v.extractLsb' 0 (8 + 8 + 8 + 8) = v := BitVec.extractLsb'_eq_self
  have hsplit : v.extractLsb' 0 (8 + 8 + 8 + 8) =
      v.extractLsb' 24 8 ++ v.extractLsb' 16 8 ++ v.extractLsb' 8 8 ++ v.extractLsb' 0 8 := by
    simp only [↓extractLsb'_eq_append_iff, Nat.zero_add, Nat.reduceAdd, and_self]
  exact hsplit.symm.trans hv

/-- Settles O43: the bytes are those of the layout, read off it at each offset. -/
theorem packResult : Obligations.PackResult := by
  refine ⟨rfl, fun s => ⟨(effectPack s).frame, congrArg Host.Outcome.next (effectPack_eq s), rfl, rfl, fun hwf i => ?_⟩⟩
  have hread (p : Fin 14) : frameRead { s with frame := (effectPack s).frame } p =
      (frameOf s.ax s.ay s.az)[p.val]'p.isLt :=
    (frameRead_congr rfl p).trans (frameRead_effectPack hwf p)
  simp only [hread]
  fin_cases i <;> exact ⟨rfl, rfl, rfl⟩

/-- Settles O44: the layout decodes to the axis registers and depends on nothing else, and a canonical buffer is decided by
its bytes. -/
theorem packProperties : Obligations.PackProperties := by
  refine ⟨fun s t hwf h => ?roundTrip, fun s s' t t' hwf hwf' hx hy hz h h' => ?idempotent, fun s => ⟨rfl, rfl⟩⟩
  case roundTrip =>
    cases h
    simp only [frameRead_effectPack hwf]
    exact ⟨append_bytes_eq s.ax, append_bytes_eq s.ay, append_bytes_eq s.az⟩
  case idempotent =>
    cases h
    cases h'
    refine frame_eq_of_frameBytes_eq (effectPack_frame_wf hwf) (effectPack_frame_wf hwf') ?_
    rw [frameBytes_effectPack hwf, frameBytes_effectPack hwf', hx, hy, hz]

/-- Settles O46: EMIT's effect with the frame as the list over the offsets. -/
theorem emitResult : Obligations.EmitResult := by
  refine ⟨rfl, fun s => ?_⟩
  rw [← frameBytes_eq_map]
  exact congrArg Host.Outcome.next (effectEmit_eq s)

end Sys2Proof.Machine
end

section
/-!
PROOFS. Without a reset OUT stays a sequence of whole frames (R163).
-/
namespace Sys2Proof.Machine

/-- The frame is one group of 14 bytes between the hardwired header and footer. -/
theorem Framed.append_frameBytes {bs : List Byte} (h : Framed bs) (s : State) : Framed (bs ++ frameBytes s) := by
  obtain ⟨fs, rfl, hfs⟩ := h
  refine ⟨fs ++ [frameBytes s], by simp, fun f hf => ?_⟩
  rcases List.mem_append.1 hf with hf | hf
  · exact hfs f hf
  · obtain rfl := List.mem_singleton.1 hf
    exact ⟨rfl, rfl, rfl⟩

/-- What a step without a reset adds to OUT (R162, R163). -/
theorem step_out {s t : State} (hrst : s.rstNow = none) (h : step s = .next t) :
    t.out = if s.state = encode .emit then s.out ++ frameBytes s else s.out := by
  rcases step_cases h with ⟨k, hk, -⟩ | ⟨-, i, hdec, hx⟩ | ⟨-, e, hdec, rfl⟩
  · simp [hrst] at hk
  · by_cases hi : i = .emit
    · subst hi
      cases hx
      rw [if_pos (decode_eq_ok hdec)]
      rfl
    · have hne : s.state ≠ encode .emit := fun hs => by
        rw [hs, decode_encode, Except.ok.injEq] at hdec
        exact hi hdec.symm
      rw [if_neg hne, exec_out hi hx, State.popRst_out]
  · have hne : s.state ≠ encode .emit := fun hs => by simp [hs] at hdec
    rw [if_neg hne]
    rfl

/-- Settles O47: a step adds nothing to OUT or, at EMIT, one whole frame. -/
theorem outputStaysFramed : Obligations.OutputStaysFramed := by
  intro s t hrst h hframed
  rw [step_out hrst h]
  by_cases hs : s.state = encode .emit
  · rw [if_pos hs]
    exact ⟨hframed.append_frameBytes s, fun hne => absurd hs hne, fun _ => by rw [frameBytes_eq_map]⟩
  · rw [if_neg hs]
    exact ⟨hframed, fun _ => rfl, fun he => absurd he hs⟩

end Sys2Proof.Machine
end

section
/-!
PROOFS. Every step answers, and the parameters stay (R181, R207, R212).
-/
namespace Sys2Proof.Machine

theorem stepSafe (s : State) : StepSafe s := by
  unfold StepSafe step
  cases s.rstNow with
  | some k => exact ⟨_, rfl⟩
  | none =>
    cases decode s.state with
    | ok i => exact exec_next i s.popRst
    | error e => exact ⟨_, rfl⟩

theorem exec_params {i : Instr} {s t : State} (h : exec i s = .next t) : t.params = s.params := by
  rcases exec_inv h with ⟨d, -, ⟨-, rfl⟩ | ⟨r, -, rfl⟩⟩ | ⟨-, rfl⟩ | ⟨-, rfl⟩ | ⟨-, rfl⟩
  · exact s.popReply_params
  · exact answered_params i d r s
  · rw [effectConv_eq]
  · rw [effectPack_eq]
  · rfl

theorem State.partialOp_params (k : Nat) (s : State) : (s.partialOp k).params = s.params := by
  unfold State.partialOp
  split
  · rfl
  · split <;> split <;> rfl

/-- A reset keeps the parameters, also in the middle of an operation (R207). -/
theorem State.resetDuring_params (k : Nat) (s : State) : (s.resetDuring k).params = s.params :=
  s.partialOp_params k

/-- Settles O8: a step is a reset, an operation, which answers whatever the transport does, or the recovery, and none of the
three writes the parameters. -/
theorem everyStepAnswersNext : Obligations.EveryStepAnswersNext := by
  refine fun s => ⟨stepSafe s, fun t h => ?_⟩
  rcases step_cases h with ⟨k, -, rfl⟩ | ⟨-, i, -, hx⟩ | ⟨-, e, -, rfl⟩
  · exact s.popRst.resetDuring_params k
  · exact (exec_params hx).trans s.popRst_params
  · rfl

end Sys2Proof.Machine
end

section
/-!
PROOFS. What a transport operation records of a failed transaction (R16, R180), and that it waits without an answer (R194).
-/
namespace Sys2Proof.Machine

/-- The register address of a descriptor stands in its field of the word driven on `req_desc` (R72). -/
theorem extractLsb'_reg_encodeDesc (d : Desc) : (encodeDesc d).extractLsb' 8 8 = d.reg := by
  obtain ⟨-, -, -, -, -, hreg, -⟩ := (eq_encodeDesc_iff (encodeDesc d) d).1 rfl
  exact hreg

/-- An error is recorded as `report TransportError(S)` says: S is the operation's own code, and S chooses the flag (R16). -/
theorem answered_of_err {i : Instr} {d : Desc} {r : Response} (hd : descOf i = some d) (herr : r.err = true) (s : State) :
    (s.answered i d r).lastErrState = encode i ∧
      (s.answered i d r).flags.cfgErr = (s.flags.cfgErr || decide ((encode i).toNat ≤ 0x6)) ∧
      (s.answered i d r).flags.acqErr = (s.flags.acqErr || !decide ((encode i).toNat ≤ 0x6)) := by
  have hacq : (!decide ((encode i).toNat ≤ 0x6)) = decide (0x7 ≤ (encode i).toNat) := by
    rw [← decide_not, decide_eq_decide, not_le, Nat.lt_iff_add_one_le]
  rw [State.answered, finishOf_eq hd, hacq]
  simp [flagsAfter, herr]

theorem answered_req (i : Instr) (d : Desc) (r : Response) (s : State) :
    (s.answered i d r).req = s.req ++ [{ desc := encodeDesc d, rsp := some r }] := by
  simp [State.answered]

/-- Settles O29: the rows of R180 are the codes and the descriptors of R70 and R74, and what is recorded depends on these. -/
theorem failedTransactionIsRecorded : Obligations.FailedTransactionIsRecorded := by
  intro row hrow s r hr herr
  obtain ⟨d, hd, hcode, hreg, hflag⟩ : ∃ d, descOf row.1 = some d ∧ encode row.1 = row.2.1 ∧ d.reg = row.2.2.1 ∧
      decide ((encode row.1).toNat ≤ 0x6) = row.2.2.2 := by
    fin_cases hrow <;> exact ⟨_, rfl, rfl, rfl, rfl⟩
  obtain ⟨hlast, hcfg, hacq⟩ := answered_of_err hd herr s
  rw [hflag] at hcfg hacq
  exact ⟨_, _, exec_answered hd hr, hlast.trans hcode, answered_req row.1 d r s, rfl,
    (extractLsb'_reg_encodeDesc d).trans hreg, hcfg, hacq⟩

/-- Using up an answer writes the two fields that say which comes next, and nothing else. -/
theorem State.popReply_eq (s : State) :
    s.popReply = { s with replies := s.replies.tail, drawIdx := s.popReply.drawIdx } := by
  cases h : s.replies <;> simp [State.popReply, h]

/-- Settles O27: a transport operation without an answer uses up the draw, a scripted one or, past the list, a free one. -/
theorem unansweredOperationWaits : Obligations.UnansweredOperationWaits := by
  intro s i hi hr
  obtain ⟨d, hd⟩ := Option.isSome_iff_exists.1 hi
  have hwait : exec i s = .next s.popReply := (exec_transport hd s).trans (transport_waiting d _ hr)
  refine ⟨s.replies.tail, s.popReply.drawIdx, hwait.trans (congrArg _ s.popReply_eq), fun q hq => ?scripted, fun hnil => ?free⟩
  case scripted => exact ⟨by rw [hq, List.tail_cons], popReply_drawIdx_cons hq⟩
  case free => exact ⟨by rw [hnil, List.tail_nil], popReply_drawIdx_nil hnil⟩

end Sys2Proof.Machine
end

section
/-!
PROOFS. The invariant at reset and under each kind of update (R206, R37): the fields an update writes are named, the others
are carried over.
-/
namespace Sys2Proof.Machine

/-- Settles O55, field by field of the reset values. -/
theorem invariantHoldsAtReset : Obligations.InvariantHoldsAtReset := by
  refine fun p => ⟨?inv, rfl, rfl⟩
  have hzero : InAxisRange 0#32 := by unfold InAxisRange; decide
  exact
    { assigned := Nat.zero_le 0xD
      done_iff := by simp [State.resetWith, StatusFlags.reset]
      legal := rfl
      poll_lt := id
      ax_range := hzero
      ay_range := hzero
      az_range := hzero
      lastErr := .inr rfl
      err_iff := by simp [State.resetWith, StatusFlags.reset]
      frame_wf := rfl
      pending := fun _ => Nat.zero_le 0xA
      txIdle := fun hne => absurd rfl hne
      txRange := Nat.zero_le 13 }

/-- A reset leaves the invariant, whatever held before. -/
theorem resetNow_inv (s : State) : Inv s.resetNow :=
  { (invariantHoldsAtReset s.params).1 with }

section
variable {s : State} (h : Inv s)
include h

theorem inv_txnPending_eq_false (hs : 0xA < s.state.toNat) : s.txnPending = false :=
  Bool.eq_false_iff.2 fun hp => absurd (h.pending hp) (by omega)

theorem inv_txIdx_eq_zero (hs : s.state ≠ encode .emit) : s.txIdx = 0#4 :=
  not_not.1 fun hne => hs (h.txIdle hne)

theorem popRst_keepsInv : Inv s.popRst := { h with }

theorem popReply_keepsInv : Inv s.popReply := by
  rw [s.popReply_eq]
  exact { h with }

theorem holdRequest_keepsInv (hs : s.state.toNat ≤ 0xA) : Inv s.holdRequest :=
  { h with pending := fun _ => hs }

theorem logTxn_keepsInv (d : Desc) (r : Response) : Inv (s.logTxn d r) :=
  { h with pending := fun hp => absurd hp (by simp) }

theorem emitBytes_keepsInv (bs : List Byte) : Inv (emitBytes bs s) := { h with }

theorem withFrame_keepsInv {m : Memory} (hm : m.wf = true) : Inv { s with frame := m } :=
  { h with frame_wf := hm }

/-- EMIT's counter may be set to any index of the frame while EMIT is running, and to 0 at any time. -/
theorem withTxIdx_keepsInv {k : BitVec 4} (hs : k ≠ 0#4 → s.state = encode .emit) (hk : k.toNat ≤ 13) :
    Inv { s with txIdx := k } :=
  { h with txIdle := hs, txRange := hk }

/-- From one operation to the next, on the same side of the end of CONFIG, when the first is over (R206, R37). -/
theorem withState_keepsInv {c : Code} (hc : c.toNat ≤ 0xD) (hdone : 0x7 ≤ s.state.toNat ↔ 0x7 ≤ c.toNat)
    (hpend : s.txnPending = false) (hidx : s.txIdx = 0#4) : Inv { s with state := c } :=
  { h with
    assigned := hc
    done_iff := h.done_iff.trans hdone
    pending := fun hp => absurd hp (by simp [hpend])
    txIdle := fun hne => absurd hidx hne }

end

end Sys2Proof.Machine
end

section
/-!
PROOFS. Every operation keeps the invariant, and so do every step and every clock cycle (R206).
-/
namespace Sys2Proof.Machine

/-- No operation leads to an unassigned code (R205, R206). -/
theorem successorOf_le (i : Instr) (r : Response) : (successorOf i r).toNat ≤ 0xD := by
  cases i
  case c1Rd | poll =>
    simp only [successorOf]
    split <;> decide
  all_goals
    simp only [successorOf]
    decide

/-- The CONFIG phase ends with C4_VR, and with no other operation (R106, R107). -/
theorem le_successorOf_iff (i : Instr) (r : Response) :
    0x7 ≤ (successorOf i r).toNat ↔ 0x7 ≤ (encode i).toNat ∨ i = .c4Vr := by
  cases i
  case c1Rd | poll =>
    simp only [successorOf]
    split <;> decide
  all_goals
    simp only [successorOf]
    decide

/-- A poll that does not reach POLL_LIMIT leaves the counter below it (R122). -/
theorem pollCnt_add_one_lt {s : State} (h : Inv s) (hpos : 0 < s.params.pollLimit.toNat) (hlimit : ¬ AtPollLimit s) :
    (s.pollCnt + 1#32).toNat < s.params.pollLimit.toNat := by
  have hlt := h.poll_lt hpos
  have hne : s.pollCnt.toNat + 1 ≠ s.params.pollLimit.toNat := fun he => hlimit ⟨hpos, he⟩
  have hbound := s.params.pollLimit.isLt
  rw [BitVec.toNat_add, BitVec.toNat_ofNat]
  omega

/-- Every value CONV writes is in the axis range (R28, R147). -/
theorem inAxisRange_convAxis (m : Config.ConvMode) (high low : Byte) : InAxisRange (convAxis m high low) := by
  rw [InAxisRange, convAxis, toInt_ofInt_convWord]
  exact convWord_bounds m _

/-- The completion of a transport operation keeps the invariant. -/
theorem finishOf_keepsInv {i : Instr} {d : Desc} {s : State} (hd : descOf i = some d) (h : Inv s) (hs : s.state = encode i)
    (hpend : s.txnPending = false) (r : Response) : Inv (finishOf i r s) := by
  have hcode := encode_le_of_descOf hd
  have hidx : s.txIdx = 0#4 := inv_txIdx_eq_zero h fun he => by
    rw [← hs, he] at hcode
    exact absurd hcode (by decide)
  rw [finishOf_eq hd]
  exact
    { h with
      assigned := successorOf_le i r
      done_iff := by
        have hdone := h.done_iff
        rw [hs] at hdone
        simp [flagsAfter, le_successorOf_iff, hdone]
      poll_lt := fun hpos => by
        dsimp only
        split
        · split
          next => exact hpos
          next hnot => exact pollCnt_add_one_lt h hpos fun hlimit => hnot (.inr hlimit)
        · exact h.poll_lt hpos
      lastErr := by
        dsimp only
        split
        · exact .inl hcode
        · exact h.lastErr
      err_iff := by
        have herr := h.err_iff
        cases hr : r.err
        · simpa [flagsAfter, hr] using herr
        · have hnone : encode i ≠ 0xF#4 := by bv_omega
          have hflag : (encode i).toNat ≤ 0x6 ∨ 0x7 ≤ (encode i).toNat := by omega
          rcases hflag with hcfg | hacq
          · simp [flagsAfter, hr, hnone, hcfg]
          · simp [flagsAfter, hr, hnone, hacq]
      pending := fun hp => absurd hp (by simp [hpend])
      txIdle := fun hne => absurd hidx hne }

theorem effectConv_keepsInv {s : State} (h : Inv s) (hs : s.state = encode .conv) : Inv (effectConv s) := by
  have hpend := inv_txnPending_eq_false h (by simp [hs])
  have hidx := inv_txIdx_eq_zero h (by simp [hs])
  have hgo := withState_keepsInv h (c := if s.errGate && !s.params.emitOnError then 0x7#4 else 0xC#4)
    (by split <;> decide) (by rw [hs]; split <;> decide) hpend hidx
  have haxis {v w : Word32} (hv : InAxisRange v) (hw : InAxisRange w) : InAxisRange (if s.errGate then v else w) := by
    split <;> assumption
  rw [effectConv_eq]
  exact
    { hgo with
      ax_range := haxis h.ax_range (inAxisRange_convAxis _ _ _)
      ay_range := haxis h.ay_range (inAxisRange_convAxis _ _ _)
      az_range := haxis h.az_range (inAxisRange_convAxis _ _ _) }

theorem effectPack_keepsInv {s : State} (h : Inv s) (hs : s.state = encode .pack) : Inv (effectPack s) := by
  have hpend := inv_txnPending_eq_false h (by simp [hs])
  have hidx := inv_txIdx_eq_zero h (by simp [hs])
  have hframe := withFrame_keepsInv h (frameWrites_wf (packWrites s.ax s.ay s.az) h.frame_wf)
  rw [effectPack_eq]
  exact withState_keepsInv hframe (by decide) (by simp [hs]) hpend hidx

/-- EMIT, after whatever bytes, completes (R81). -/
theorem emitComplete_keepsInv {s : State} (h : Inv s) (hs : s.state = encode .emit) (bs : List Byte) :
    Inv { emitBytes bs s with txIdx := 0#4, state := encode .poll } := by
  have hpend := inv_txnPending_eq_false h (by simp [hs])
  have hidle := withTxIdx_keepsInv (emitBytes_keepsInv h bs) (k := 0#4) (fun hne => absurd rfl hne) (by decide)
  exact withState_keepsInv hidle (by decide) (by simp [hs]) hpend rfl

theorem emitCycle_keepsInv {s : State} (h : Inv s) (hs : s.state = encode .emit) : Inv (emitCycle s) := by
  unfold emitCycle
  split
  next => exact emitComplete_keepsInv h hs _
  next hne =>
    have hrange := h.txRange
    exact withTxIdx_keepsInv (emitBytes_keepsInv h _) (fun _ => hs) (by bv_omega)

/-- Every operation keeps the invariant at the operation level. -/
theorem exec_keepsInv {i : Instr} {s t : State} (h : Inv s) (hs : s.state = encode i) (hx : exec i s = .next t) :
    Inv t := by
  rcases exec_inv hx with ⟨d, hd, ⟨-, rfl⟩ | ⟨r, -, rfl⟩⟩ | ⟨rfl, rfl⟩ | ⟨rfl, rfl⟩ | ⟨rfl, rfl⟩
  · exact popReply_keepsInv h
  · exact finishOf_keepsInv hd (logTxn_keepsInv (popReply_keepsInv h) d r) (by simp [hs]) rfl r
  · exact effectConv_keepsInv h hs
  · exact effectPack_keepsInv h hs
  · exact emitComplete_keepsInv h hs (frameBytes s)

/-- A cycle of a transport operation keeps the invariant: it issues, holds or completes the request (R78). -/
theorem handshake_keepsInv {i : Instr} {d : Desc} {s : State} (hd : descOf i = some d) (h : Inv s) (hs : s.state = encode i)
    (p : PortIn) : Inv (handshake d (finishOf i) p s) := by
  unfold handshake
  split
  · split
    · exact finishOf_keepsInv hd (logTxn_keepsInv h d p.response) hs rfl p.response
    · exact h
  · exact holdRequest_keepsInv h (by rw [hs]; exact encode_le_of_descOf hd)

/-- Every operation keeps the invariant in each of its cycles. -/
theorem cycleOp_keepsInv {i : Instr} {s : State} (h : Inv s) (hs : s.state = encode i) (p : PortIn) : Inv (cycleOp i p s) := by
  cases hd : descOf i with
  | some d => rw [cycleOp_transport hd]; exact handshake_keepsInv hd h hs p
  | none =>
    cases i <;> cases hd
    · exact effectConv_keepsInv h hs
    · exact effectPack_keepsInv h hs
    · exact emitCycle_keepsInv h hs

/-- The recovery step is not taken in a run from reset (R205, R206). -/
theorem decode_ne_error {s : State} (h : Inv s) (e : DecodeReject) : decode s.state ≠ .error e := fun he =>
  absurd h.assigned (Nat.not_le.2 (decode_eq_error he))

theorem exec_atBoundary {i : Instr} {s t : State} (h : AtBoundary s) (hx : exec i s = .next t) : AtBoundary t := by
  obtain ⟨hpend, hidx⟩ := h
  rcases exec_inv hx with ⟨d, -, ⟨-, rfl⟩ | ⟨r, -, rfl⟩⟩ | ⟨-, rfl⟩ | ⟨-, rfl⟩ | ⟨-, rfl⟩
  · exact ⟨by simp [hpend], by simp [hidx]⟩
  · exact ⟨by simp, by simp [hidx]⟩
  · rw [effectConv_eq]; exact ⟨hpend, hidx⟩
  · rw [effectPack_eq]; exact ⟨hpend, hidx⟩
  · exact ⟨hpend, rfl⟩

/-- Settles O56, by the three kinds of step: reset, operation, recovery. -/
theorem stepKeepsInvariant : Obligations.StepKeepsInvariant := by
  intro s t hstep
  rcases step_cases hstep with ⟨k, -, rfl⟩ | ⟨-, i, hdec, hx⟩ | ⟨-, e, hdec, rfl⟩
  · exact ⟨fun _ => resetNow_inv _, fun _ => ⟨rfl, rfl⟩⟩
  · exact ⟨fun h => exec_keepsInv (popRst_keepsInv h) (decode_eq_ok hdec) hx, fun h => exec_atBoundary (s := s.popRst) h hx⟩
  · exact ⟨fun h => absurd hdec (decode_ne_error h e), id⟩

/-- Settles O57, by the three kinds of cycle: reset, one of an operation's, recovery. -/
theorem cycleKeepsInvariant : Obligations.CycleKeepsInvariant := by
  intro p s h
  unfold cycle
  split
  · exact resetNow_inv s
  · split
    next i hdec => exact cycleOp_keepsInv h (decode_eq_ok hdec) p
    next e hdec => exact absurd hdec (decode_ne_error h e)

end Sys2Proof.Machine
end

section
/-!
PROOFS. Reset (R200 to R202): the values, the cycle with `rst` = 1, and a step that `rst` cuts short.
-/
namespace Sys2Proof.Machine

/-- Settles O52, by evaluating the reset state. -/
theorem resetValues : Obligations.ResetValues := by
  unfold Obligations.ResetValues
  decide

/-- A reset cycle leaves every register as it is after reset; FRAME is empty, so its bytes are those of R29. -/
theorem resetNow_sameRegisters (s : State) : SameRegisters s.resetNow State.reset :=
  ⟨rfl, rfl, rfl, rfl, rfl, rfl, rfl, rfl, rfl, rfl, rfl, rfl, rfl, rfl, rfl, frameRead_congr rfl, rfl, rfl, rfl, rfl, rfl⟩

/-- Settles O53, by the registers of a reset cycle and the ports while `rst` = 1. -/
theorem resetCycleClearsRegisters : Obligations.ResetCycleClearsRegisters := by
  intro p s hrst
  rw [cycle_reset s hrst, hrst]
  exact ⟨resetNow_sameRegisters s, rfl, rfl, rfl, decode_0⟩

/-- The codes up to 0xA are those of the transport operations (R78). -/
theorem exists_descOf_of_le {c : Code} (h : c.toNat ≤ 0xA) : ∃ i d, decode c = .ok i ∧ descOf i = some d := by
  cases hdec : decode c with
  | error e => exact absurd (decode_eq_error hdec) (by omega)
  | ok i =>
    rw [decode_eq_ok hdec] at h
    cases i
    case conv | pack | emit => exact absurd h (by decide)
    all_goals exact ⟨_, _, rfl, rfl⟩

section
variable {s : State}

/-- Before its first cycle an operation has shown nothing (R201). -/
theorem partialOp_zero (hs : s.state ≠ encode .emit) : s.partialOp 0 = s := by
  unfold State.partialOp
  split
  next => rfl
  next i hdec =>
    have hi : i ≠ .emit := fun he => hs (he ▸ decode_eq_ok hdec)
    split <;> simp [hi]

theorem partialOp_transport {i : Instr} {d : Desc} (hdec : decode s.state = .ok i) (hd : descOf i = some d) {k : Nat}
    (hk : k ≠ 0) : s.partialOp k = s.holdRequest := by
  simp [State.partialOp, hdec, hd, hk]

theorem partialOp_emit (hs : s.state = encode .emit) {k : Nat} (hk : k ≤ 13) :
    s.partialOp k = emitBytes ((frameBytes s).take k) s := by
  simp [State.partialOp, hs, descOf, hk]

/-- After any positive number of cycles without an answer the request is outstanding, and nothing else has changed (R78). -/
theorem cycles_quiet_transport {i : Instr} {d : Desc} (hdec : decode s.state = .ok i) (hd : descOf i = some d) (k : Nat) :
    cycles (List.replicate (k + 1) quietIn) s = s.holdRequest := by
  have hfirst : cycle quietIn s = s.holdRequest := by
    rw [cycle_transport rfl hdec hd]
    cases hpend : s.txnPending with
    | false => exact handshake_first d _ quietIn hpend
    | true => rw [handshake_wait d _ hpend rfl, State.holdRequest, ← hpend]
  rw [List.replicate_succ, cycles, hfirst]
  refine cycles_waiting (s := s.holdRequest) hdec hd rfl fun p hp => ?_
  rw [List.eq_of_mem_replicate hp]
  exact ⟨rfl, rfl⟩

theorem cycles_quiet_emit (hs : s.state = encode .emit) (hidx : s.txIdx = 0#4) {k : Nat} (hk : k ≤ 13) :
    cycles (List.replicate k quietIn) s = s.emitted k := by
  have hquiet : ∀ p ∈ List.replicate k quietIn, p.rst = false := fun p hp => by
    rw [List.eq_of_mem_replicate hp]
    rfl
  have hcycles := cycles_emitted hs hquiet (k := 0) (by rw [List.length_replicate]; omega)
  rwa [emitted_zero hidx, List.length_replicate, Nat.zero_add] at hcycles

/-- What a reset keeps of an operation is what its quiet cycles have shown (R201). -/
theorem resetDuring_eq_cycles {k : Nat} (hidx : s.txIdx = 0#4)
    (hk : (k = 0 ∧ s.state ≠ encode .emit) ∨ s.state.toNat ≤ 0xA ∨ (s.state = encode .emit ∧ k ≤ 13)) :
    s.resetDuring k = (cycles (List.replicate k quietIn) s).resetNow := by
  rw [State.resetDuring]
  rcases hk with ⟨rfl, hs⟩ | hs | ⟨hs, hk⟩
  · rw [partialOp_zero hs, List.replicate_zero, cycles]
  · obtain ⟨i, d, hdec, hd⟩ := exists_descOf_of_le hs
    cases k with
    | zero =>
      have hne : s.state ≠ encode .emit := fun he => absurd hs (by simp [he])
      rw [partialOp_zero hne, List.replicate_zero, cycles]
    | succ k => rw [partialOp_transport hdec hd k.succ_ne_zero, cycles_quiet_transport hdec hd]
  · rw [partialOp_emit hs hk, cycles_quiet_emit hs hidx hk, emitted_of_lt (by omega)]
    rfl

theorem step_reset {k : Nat} (h : s.rstNow = some k) : step s = .next (s.popRst.resetDuring k) := by
  simp [step, h]

end

/-- Settles O54: a reset step is a reset cycle after the quiet cycles, and what EMIT has put out by then stays. -/
theorem resetStepMatchesCycles : Obligations.ResetStepMatchesCycles := by
  intro s k hrst hidx hk
  rw [step_reset hrst]
  refine ⟨?registers, fun hs hle t ht => ?out⟩
  case registers =>
    rw [resetDuring_eq_cycles (s := s.popRst) hidx hk, cycles_append]
    rfl
  case out =>
    cases ht
    rw [State.resetDuring, partialOp_emit (s := s.popRst) hs hle, ← frameBytes_eq_map]
    rfl

end Sys2Proof.Machine
end

section
/-!
PROOFS. The recovery step (R205), and what a cycle of the operations without a transaction does (R80, R217).
-/
namespace Sys2Proof.Machine

theorem decode_error_of_lt {c : Code} (h : 0xD < c.toNat) : ∃ e, decode c = .error e := by
  cases hdec : decode c with
  | ok i => exact absurd (decode_ok_le hdec) (by omega)
  | error e => exact ⟨e, rfl⟩

/-- The unassigned codes are 0xE and 0xF (R70). -/
theorem lt_toNat_iff_unassigned (c : Code) : 0xD < c.toNat ↔ c = 0xE#4 ∨ c = 0xF#4 := by bv_omega

theorem toNat_le_iff_assigned (c : Code) : c.toNat ≤ 0xD ↔ c ≠ 0xE#4 ∧ c ≠ 0xF#4 := by
  rw [← not_lt, lt_toNat_iff_unassigned, not_or]

theorem step_recover {s : State} (hrst : s.rstNow = none) (hs : 0xD < s.state.toNat) :
    step s = .next (recover s.popRst) := by
  obtain ⟨e, he⟩ := decode_error_of_lt hs
  simp [step, hrst, he]

theorem cycle_recover {p : PortIn} {s : State} (hrst : p.rst = false) (hs : 0xD < s.state.toNat) :
    cycle p s = recover s := by
  obtain ⟨e, he⟩ := decode_error_of_lt hs
  simp [cycle, hrst, he]

/-- An operation leads to an operation, itself while it waits (R205). -/
theorem exec_state_le {i : Instr} {s t : State} (hs : s.state.toNat ≤ 0xD) (hx : exec i s = .next t) :
    t.state.toNat ≤ 0xD := by
  rcases exec_inv hx with ⟨d, hd, ⟨-, rfl⟩ | ⟨r, -, rfl⟩⟩ | ⟨-, rfl⟩ | ⟨-, rfl⟩ | ⟨-, rfl⟩
  · rwa [State.popReply_state]
  · rw [← State.answered, answered_state hd]
    exact successorOf_le i r
  · rw [effectConv_eq]
    dsimp only
    split <;> decide
  · exact (by decide : (encode .emit).toNat ≤ 0xD)
  · exact (by decide : (encode .poll).toNat ≤ 0xD)

/-- Settles O7: the recovery step is the third kind of step; a reset leads to ID_RD and an operation to an operation. -/
theorem recoveryStepGoesToPoll : Obligations.RecoveryStepGoesToPoll := by
  refine ⟨fun s hrst hs => step_recover hrst ((lt_toNat_iff_unassigned _).2 hs), rfl, fun s t hE hF hstep => ?assigned⟩
  case assigned =>
    rw [← toNat_le_iff_assigned]
    rcases step_cases hstep with ⟨k, -, rfl⟩ | ⟨-, i, -, hx⟩ | ⟨-, e, -, rfl⟩
    · exact Nat.zero_le 0xD
    · exact exec_state_le (s := s.popRst) ((toNat_le_iff_assigned _).2 ⟨hE, hF⟩) hx
    · exact (by decide : (encode .poll).toNat ≤ 0xD)

theorem cycle_of_state {p : PortIn} {s : State} {i : Instr} (hrst : p.rst = false) (hs : s.state = encode i) :
    cycle p s = cycleOp i p s :=
  cycle_op hrst (by rw [hs, decode_encode])

/-- Outside EMIT the sink port is idle (R80). -/
theorem ports_not_emitting {s : State} (hs : s.state ≠ encode .emit) :
    (ports false s).txValid = false ∧ (ports false s).txData = 0x00#8 := by
  have hidle : s.emitting = false := beq_false_of_ne hs
  simp [ports, hidle]

/-- Above 0xA no descriptor is driven (R78). -/
theorem currentDesc_eq_none {s : State} (hs : 0xA < s.state.toNat) : s.currentDesc = none := by
  unfold State.currentDesc
  split
  next i hdec =>
    rw [decode_eq_ok hdec] at hs
    exact Option.eq_none_iff_forall_ne_some.2 fun d hd => absurd (encode_le_of_descOf hd) (by omega)
  next => rfl

/-- Settles O60: CONV and PACK are done in one cycle, and the ports follow the state code. -/
theorem singleCycleOperations : Obligations.SingleCycleOperations := by
  refine fun p s hrst => ⟨fun hs => ?conv, fun hs => ?pack, fun hs => cycle_recover hrst hs, ports_not_emitting,
    fun hs => ?request⟩
  case conv => exact congrArg Host.Outcome.next (cycle_of_state hrst hs).symm
  case pack => exact congrArg Host.Outcome.next (cycle_of_state hrst hs).symm
  case request => simp [ports, currentDesc_eq_none hs]

end Sys2Proof.Machine
end
